-- ==== Sys2Proof/Word.lean ====
section
/-! DEFINITION. The widths of the machine (spec 00_scope.md R4, R32): bytes, 16-bit words and the 64-bit
cycle counter. The helpers that cut and join them stand in Machine/Bits.lean. -/

namespace Sys2Proof

/-- `u8`: one byte, the width of A, X, Y, S and of every bus access (R4). -/
abbrev Byte := BitVec 8

/-- `u16`: an address or the program counter (R4). -/
abbrev Word := BitVec 16

/-- `u64`: the cycle counter (R4, R20). Its arithmetic is modulo 2^64 (log 14). -/
abbrev Cycles := BitVec 64

end Sys2Proof
end

