-- ==== Sys2Proof/Machine/Bits.lean ====
section
/-! DEFINITION. Joining, cutting and extending bytes and words (spec 00_scope.md R32, 20_memory.md R45). -/

namespace Sys2Proof

/-- `{hi, lo}` of R32: the word with high byte `hi` and low byte `lo`. -/
def word (hi lo : Byte) : Word := hi ++ lo

/-- `w[15:8]`, which is also the page of the address `w` (R33). -/
def hiByte (w : Word) : Byte := w.extractLsb' 8 8

/-- `w[7:0]`. -/
def loByte (w : Word) : Byte := w.extractLsb' 0 8

/-- `zext_16` of R32. -/
def zext16 (b : Byte) : Word := b.setWidth 16

/-- `sext_16` of R32. -/
def sext16 (b : Byte) : Word := b.signExtend 16

end Sys2Proof
end

