-- ==== Sys2Proof/Config.lean ====
section
/-! DEFINITION. What the spec leaves to the host or to the implementation (00_scope.md R5, R6): the policy
for unassigned opcodes, the parameters B_WRITEBACK, INTERNAL_CYCLES and BCD_ADD/BCD_SUB as plain data, the
region map of the bus, and the free values: constants without a body, of which nothing can be proved. -/

namespace Sys2Proof

/-- `UnknownOpcodePolicy` (R5): what an opcode absent from the table does. -/
inductive Policy
  | throwException
  | treatAsNop
  | emulateHardwareBehavior
deriving DecidableEq, Repr

/-- How `BCD_ADD` and `BCD_SUB` treat an operand that is not valid BCD (R6, R151, R153; log 6). -/
inductive InvalidBcd
  /-- the spec's default: the NMOS digit correction for all operands -/
  | nmos
  /-- the parameter left open: a free value wherever a digit is above 9 -/
  | free
deriving DecidableEq, Repr

/-- The parameters of R6 that are fixed for one engine. -/
structure Config where
  /-- `B_WRITEBACK`: trap entry also writes the forced B into the stored flag (R239; log 4). -/
  bWriteback : Bool
  /-- `INTERNAL_CYCLES`: entries (opcode, cycles) that replace those of the default table of R281 (log 5). -/
  internalOverride : List (Nat × Nat)
  /-- `BCD_ADD`, `BCD_SUB` off valid BCD (log 6). -/
  invalidBcd : InvalidBcd
deriving DecidableEq, Repr

/-- The recommended defaults of R6. -/
def Config.default : Config :=
  { bWriteback := false, internalOverride := [], invalidBcd := .nmos }

/-- What the host put behind an address (20_memory.md R50): plain memory that answers everything, memory
that refuses writes, memory that refuses reads, nothing at all, or a device. -/
inductive RegionKind
  | ram
  | rom
  | writeOnly
  | absent
  | device
deriving DecidableEq, Repr

/-- `size` addresses from `base` on, all of one kind. -/
structure Region where
  base : Nat
  size : Nat
  kind : RegionKind
deriving DecidableEq, Repr

/-- One access to a device window, with what the device answered (R41, R42). -/
inductive BusAccess
  | read (address : Word) (answer : Option Byte)
  | write (address : Word) (value : Byte) (accepted : Bool)
deriving DecidableEq, Repr

/-- FREE VALUE (log 8): what a device answers to a read, a byte or a refusal, given every access made to
device windows before (newest first). The spec says only that the host supplies it (R41, R50). -/
opaque Config.deviceRead : List BusAccess → Word → Option Byte

/-- FREE VALUE (log 8): whether a device accepts a write (R42, R50). -/
opaque Config.deviceWrite : List BusAccess → Word → Byte → Bool

/-- FREE VALUE (log 6): `BCD_ADD` where an operand is not valid BCD (R151). -/
opaque Config.bcdAddInvalid : Byte → Byte → Bool → Byte × Bool

/-- FREE VALUE (log 6): `BCD_SUB` where an operand is not valid BCD (R153). -/
opaque Config.bcdSubInvalid : Byte → Byte → Bool → Byte × Bool

end Sys2Proof
end

