-- ==== Sys2Proof/Machine/State.lean ====
section
/-! DEFINITION. The state of the engine (spec 10_state.md R34: the list is complete) with the bus behind it,
as plain data; the two ways a step can stop; the state at construction and right after reset. -/

namespace Sys2Proof.Machine

/-- The bytes behind the bus (20_memory.md R40): (address, byte) pairs, addresses rising, no byte equal to
what an unlisted address reads as. `Memory.wf` (Machine/Memory.lean) says that form. -/
abbrev Memory := List Host.Cell

/-- All the state (R34). Field names are the spec's, but for `sp`, which is its `S`. -/
structure State where
  /-- A, the accumulator (R10) -/
  a : Byte
  /-- X, an index register (R11) -/
  x : Byte
  /-- Y, an index register (R12) -/
  y : Byte
  /-- S, the stack pointer, an offset into page 1 (R13) -/
  sp : Byte
  /-- PC, the address of the next instruction byte (R14) -/
  pc : Word
  /-- C, carry (R15, R16) -/
  c : Bool
  /-- Z, zero -/
  z : Bool
  /-- I, interrupt disable -/
  i : Bool
  /-- D, decimal mode -/
  d : Bool
  /-- B, break: a stored flag like the others (R15) -/
  b : Bool
  /-- V, overflow -/
  v : Bool
  /-- N, negative -/
  n : Bool
  /-- CYC, elapsed bus cycles (R20) -/
  cyc : Cycles
  /-- reset_line, an input level (R21) -/
  resetLine : Bool
  /-- irq_line, an input level (R22) -/
  irqLine : Bool
  /-- nmi_line, an input level (R23) -/
  nmiLine : Bool
  /-- nmiPending, the one-bit NMI latch (R23) -/
  nmiPending : Bool
  /-- POLICY (R25) -/
  policy : Policy
  /-- the parameters of R6 -/
  cfg : Config
  /-- the bytes behind the bus (R50) -/
  mem : Memory
  /-- which addresses refuse accesses or are devices (R50); the first region that holds an address decides,
  an address in none is plain RAM -/
  regions : List Region
  /-- the accesses made to device windows, newest first: the MODEL's own field (log 8) -/
  deviceLog : List BusAccess
  /-- set by every error outcome, cleared by nothing: the MODEL's own field (40_step_and_dispatch.md R103; log 9) -/
  faultMark : Bool
  /-- set by every refusal, cleared by nothing: the MODEL's own field (R101; log 10) -/
  refusalMark : Bool
deriving DecidableEq, Repr

/-- The two error outcomes of 60_exceptions.md R230. `left` is the state the aborted step leaves (20_memory.md
R44): everything done before the raising statement stands, and the host may go on from there (R103). -/
inductive Fault
  /-- Raised by every bus access that the bus refuses (R231), in a fetch, an operand, a stack access, a vector
  read. Safe: the machine stops where the spec says the `Step` ends. -/
  | memoryFault (address : Word) (left : State)
  /-- Raised by an unassigned opcode under `ThrowException` (R232, 40_step_and_dispatch.md R99). Safe: the
  `Step` ends there by the spec. -/
  | invalidOpcode (address : Word) (opcode : Byte) (left : State)
deriving DecidableEq, Repr

/-- What has no meaning. -/
inductive Refusal
  /-- Raised by an arm of `exec` that has no meaning yet. Safe. -/
  | notModelled (mnemonic : String)
  /-- Raised by an unassigned opcode under `EmulateHardwareBehavior`, which the spec gives no successor
  (40_step_and_dispatch.md R101, 93_implementation_defined.md U1). Safe: nothing is guessed. -/
  | emulateHardwareBehavior (address : Word) (opcode : Byte) (left : State)
deriving DecidableEq, Repr

/-- The outcome of a part of a step: a value, an error, or a refusal. -/
abbrev Result (α : Type) := Host.Outcome α Fault Refusal

/-- The state at construction, the parameter INIT (10_state.md R30). The spec gives no value; these are the
model's (logs 1, 2, 3). -/
def State.init : State where
  a := 0x00
  x := 0x00
  y := 0x00
  sp := 0xFF
  pc := 0x0000
  c := false
  z := false
  i := false
  d := false
  b := false
  v := false
  n := false
  cyc := 0
  resetLine := false
  irqLine := false
  nmiLine := false
  nmiPending := false
  policy := .treatAsNop
  cfg := Config.default
  mem := []
  regions := []
  deviceLog := []
  faultMark := false
  refusalMark := false

/-- The state after `Reset()` on `State.init` (70_reset_and_hazards.md R260, R263): I is 1, PC is the word at
0xFFFC/0xFFFD of a memory with nothing listed, CYC is up by 7, all else as constructed. -/
def State.reset : State :=
  { State.init with i := true, pc := 0x0000, cyc := 7 }

end Sys2Proof.Machine
end

