-- ==== Sys2Proof/Machine/Update.lean ====
section
/-! DEFINITION. The named updates of State: one register, flag or latch each (spec 10_state.md R29: every
write is already in range). Their field lemmas are in Laws/State.lean. -/

namespace Sys2Proof.Machine

/-- `Tick(k)`: `CYC <- CYC + k` (R20), modulo 2^64 (log 14). -/
def State.tick (k : Nat) (s : State) : State := { s with cyc := s.cyc + BitVec.ofNat 64 k }

def State.setA (w : Byte) (s : State) : State := { s with a := w }

def State.setX (w : Byte) (s : State) : State := { s with x := w }

def State.setY (w : Byte) (s : State) : State := { s with y := w }

def State.setSP (w : Byte) (s : State) : State := { s with sp := w }

def State.setPC (w : Word) (s : State) : State := { s with pc := w }

def State.setC (f : Bool) (s : State) : State := { s with c := f }

def State.setZ (f : Bool) (s : State) : State := { s with z := f }

def State.setI (f : Bool) (s : State) : State := { s with i := f }

def State.setD (f : Bool) (s : State) : State := { s with d := f }

def State.setB (f : Bool) (s : State) : State := { s with b := f }

def State.setV (f : Bool) (s : State) : State := { s with v := f }

def State.setN (f : Bool) (s : State) : State := { s with n := f }

/-- The latch is consumed (R23). -/
def State.clearNmi (s : State) : State := { s with nmiPending := false }

def State.setMem (m : Memory) (s : State) : State := { s with mem := m }

/-- One more access seen by the devices (log 8). -/
def State.logAccess (acc : BusAccess) (s : State) : State := { s with deviceLog := acc :: s.deviceLog }

/-- The sticky fault mark (40_step_and_dispatch.md R103). -/
def State.markFault (s : State) : State := { s with faultMark := true }

/-- The sticky refusal mark (R101). -/
def State.markRefusal (s : State) : State := { s with refusalMark := true }

end Sys2Proof.Machine
end

