-- ==== Sys2Proof/Machine/Flags.lean ====
section
/-! DEFINITION. Every flag computation: the packed status byte, `SetNZ`, the results and flags of add,
subtract, compare, bit test, shift and rotate, and decimal correction. -/

namespace Sys2Proof.Machine

/-! ## The status byte -/

/-- `P()` (10_state.md R17): the seven flags at their masks, bit 5 always 1. -/
def State.packed (s : State) : Byte :=
  BitVec.ofNat 8 (s.n.toNat * 0x80 + s.v.toNat * 0x40 + 0x20 + s.b.toNat * 0x10 +
    s.d.toNat * 0x08 + s.i.toNat * 0x04 + s.z.toNat * 0x02 + s.c.toNat)

/-- `StatusByte(b)` (60_exceptions.md R239): `P()` with bit 4 replaced by `b`. -/
def State.statusByte (forcedB : Bool) (s : State) : Byte :=
  (s.packed &&& 0xEF) ||| (if forcedB then 0x10 else 0x00)

/-- `Unpack(v)` (10_state.md R18): all seven flags, bit 5 ignored. -/
def State.unpack (w : Byte) (s : State) : State :=
  { s with
    n := w.getLsbD 7, v := w.getLsbD 6, b := w.getLsbD 4, d := w.getLsbD 3,
    i := w.getLsbD 2, z := w.getLsbD 1, c := w.getLsbD 0 }

/-- `SetNZ(v)` (R19). -/
def State.setNZ (w : Byte) (s : State) : State := { s with z := w == 0, n := w.msb }

/-! ## Binary add and subtract (43_arithmetic_compare.md R150, R152) -/

/-- `t` of R150: the sum as an integer, 0 to 511. -/
def addTotal (a m : Byte) (cin : Bool) : Nat := a.toNat + m.toNat + cin.toNat

/-- `r` of R150. -/
def addResult (a m : Byte) (cin : Bool) : Byte := BitVec.ofNat 8 (addTotal a m cin)

/-- V of R150: the operands have one sign and the result the other. -/
def addOverflow (a m : Byte) (cin : Bool) : Bool :=
  a.msb == m.msb && (addResult a m cin).msb != a.msb

/-- `t` of R152: the borrow-extended difference, -256 to 255. -/
def subTotal (a m : Byte) (cin : Bool) : Int := (a.toNat : Int) - m.toNat - (1 - (cin.toNat : Int))

/-- `r` of R152. -/
def subResult (a m : Byte) (cin : Bool) : Byte := BitVec.ofInt 8 (subTotal a m cin)

/-- V of R152: the operands differ in sign and the result's sign is not A's. -/
def subOverflow (a m : Byte) (cin : Bool) : Bool :=
  a.msb != m.msb && (subResult a m cin).msb != a.msb

/-! ## Decimal correction (R151, R153) -/

/-- A valid BCD byte: both halves are digits 0 to 9 (00_scope.md R33). -/
def validBcd (w : Byte) : Bool := decide (w.toNat / 16 ≤ 9) && decide (w.toNat % 16 ≤ 9)

/-- `dec(x)` of R151. -/
def decOf (w : Byte) : Nat := 10 * (w.toNat / 16) + w.toNat % 16

/-- `bcd(k)` of R151, for k below 100. -/
def bcdOf (k : Nat) : Byte := BitVec.ofNat 8 (k / 10 * 16 + k % 10)

/-- The low digit of `BCD_ADD`, corrected, with its carry into bit 4 (R151). -/
def bcdAddLow (a m : Byte) (cin : Bool) : Nat :=
  let al := a.toNat % 16 + m.toNat % 16 + cin.toNat
  if 0x0A ≤ al then (al + 0x06) % 16 + 0x10 else al

/-- The default `BCD_ADD` (R151): the NMOS digit correction, for all operands. -/
def bcdAddNmos (a m : Byte) (cin : Bool) : Byte × Bool :=
  let sum := a.toNat / 16 * 16 + m.toNat / 16 * 16 + bcdAddLow a m cin
  if 0xA0 ≤ sum then (BitVec.ofNat 8 (sum + 0x60), true) else (BitVec.ofNat 8 sum, false)

/-- The low digit of `BCD_SUB`, corrected, with its borrow out of bit 4 (R153). -/
def bcdSubLow (a m : Byte) (cin : Bool) : Int :=
  let al := ((a.toNat % 16 : Nat) : Int) - (m.toNat % 16 : Nat) + cin.toNat - 1
  if al < 0 then (al - 0x06) % 16 - 0x10 else al

/-- The default `BCD_SUB` (R153): the NMOS digit correction, for all operands. -/
def bcdSubNmos (a m : Byte) (cin : Bool) : Byte × Bool :=
  let diff := ((a.toNat / 16 * 16 : Nat) : Int) - (m.toNat / 16 * 16 : Nat) + bcdSubLow a m cin
  if diff < 0 then (BitVec.ofInt 8 (diff - 0x60), false) else (BitVec.ofInt 8 diff, true)

/-- Whether the configuration leaves the decimal result of these operands open (log 6). -/
def bcdOpen (cfg : Config) (a m : Byte) : Bool :=
  decide (cfg.invalidBcd = .free) && !(validBcd a && validBcd m)

/-- `BCD_ADD` of an engine (R6, R151). -/
def bcdAdd (cfg : Config) (a m : Byte) (cin : Bool) : Byte × Bool :=
  if bcdOpen cfg a m then Config.bcdAddInvalid a m cin else bcdAddNmos a m cin

/-- `BCD_SUB` of an engine (R6, R153). -/
def bcdSub (cfg : Config) (a m : Byte) (cin : Bool) : Byte × Bool :=
  if bcdOpen cfg a m then Config.bcdSubInvalid a m cin else bcdSubNmos a m cin

/-! ## What an operand byte does to A and the flags -/

/-- ADC once M is read (R150): N, Z, V from the binary sum in both modes, A and C from the mode's sum. -/
def State.adc (m : Byte) (s : State) : State :=
  let t := (s.setNZ (addResult s.a m s.c)).setV (addOverflow s.a m s.c)
  if s.d then (t.setA (bcdAdd s.cfg s.a m s.c).1).setC (bcdAdd s.cfg s.a m s.c).2
  else (t.setA (addResult s.a m s.c)).setC (decide (0xFF < addTotal s.a m s.c))

/-- SBC once M is read (R152). -/
def State.sbc (m : Byte) (s : State) : State :=
  let t := (s.setNZ (subResult s.a m s.c)).setV (subOverflow s.a m s.c)
  if s.d then (t.setA (bcdSub s.cfg s.a m s.c).1).setC (bcdSub s.cfg s.a m s.c).2
  else (t.setA (subResult s.a m s.c)).setC (decide (0 ≤ subTotal s.a m s.c))

/-- A compare of a register with M (R164): N, Z of the wrapping difference, C of the unsigned order. -/
def State.compare (reg m : Byte) (s : State) : State :=
  (s.setNZ (reg - m)).setC (decide (m.toNat ≤ reg.toNat))

/-- BIT (44_logical_shift.md R173): N and V from M, Z from A and M. -/
def State.bitTest (m : Byte) (s : State) : State :=
  ((s.setN (m.getLsbD 7)).setV (m.getLsbD 6)).setZ (s.a &&& m == 0)

/-! ## The functions `f` of the read-modify-write instructions: the new value, and the state with its flags -/

/-- ASL (R174). -/
def aslOf (old : Byte) (s : State) : Byte × State :=
  (old <<< 1, (s.setC (old.getLsbD 7)).setNZ (old <<< 1))

/-- LSR (R175). -/
def lsrOf (old : Byte) (s : State) : Byte × State :=
  (old >>> 1, (s.setC (old.getLsbD 0)).setNZ (old >>> 1))

/-- The value of ROL (R176): the old carry into bit 0. -/
def rolValue (old : Byte) (cin : Bool) : Byte := (old <<< 1) ||| (if cin then 0x01 else 0x00)

/-- ROL (R176). -/
def rolOf (old : Byte) (s : State) : Byte × State :=
  (rolValue old s.c, (s.setC (old.getLsbD 7)).setNZ (rolValue old s.c))

/-- The value of ROR (R177): the old carry into bit 7. -/
def rorValue (old : Byte) (cin : Bool) : Byte := (old >>> 1) ||| (if cin then 0x80 else 0x00)

/-- ROR (R177). -/
def rorOf (old : Byte) (s : State) : Byte × State :=
  (rorValue old s.c, (s.setC (old.getLsbD 0)).setNZ (rorValue old s.c))

/-- INC (43_arithmetic_compare.md R157). -/
def incOf (old : Byte) (s : State) : Byte × State := (old + 1, s.setNZ (old + 1))

/-- DEC (R158). -/
def decOfByte (old : Byte) (s : State) : Byte × State := (old - 1, s.setNZ (old - 1))

end Sys2Proof.Machine
end

