-- ==== Sys2Proof/Machine/Ops.lean ====
section
/-! DEFINITION. The named operations over the bus, the stack and the interrupt sequencer: sequencing, bus
reads and writes, fetch, push and pull, taking an interrupt or BRK (`trapEntry`) and returning from one. -/

namespace Sys2Proof.Machine

/-! ## Sequencing: a statement that stops ends the step (20_memory.md R44) -/

/-- Run a statement, then go on from the state it left. -/
def seq {α : Type} (r : Result State) (k : State → Result α) : Result α :=
  match r with
  | .next s => k s
  | .fault f => .fault f
  | .refused f => .refused f

/-- Run a statement that yields a value, then go on with both. -/
def bindVal {α β : Type} (r : Result (α × State)) (k : α → State → Result β) : Result β :=
  match r with
  | .next p => k p.1 p.2
  | .fault f => .fault f
  | .refused f => .refused f

/-- `raise MemoryFault(addr)` (60_exceptions.md R231): the state as it stands is what the step leaves. -/
def raiseMemoryFault {α : Type} (addr : Word) (s : State) : Result α :=
  .fault (.memoryFault addr s.markFault)

/-- `raise InvalidOpcode(addr, opcode)` (R232). -/
def raiseInvalidOpcode {α : Type} (addr : Word) (opcode : Byte) (s : State) : Result α :=
  .fault (.invalidOpcode addr opcode s.markFault)

/-! ## The bus (20_memory.md R41, R42, R50) -/

/-- The kind of an address: the first region that holds it, plain RAM in none (log 7). -/
def kindIn : List Region → Nat → RegionKind
  | [], _ => .ram
  | r :: rs, addr => if r.base ≤ addr ∧ addr < r.base + r.size then r.kind else kindIn rs addr

/-- What stands behind an address. -/
def State.kindAt (s : State) (addr : Word) : RegionKind := kindIn s.regions addr.toNat

/-- The byte memory holds at an address, with no access made. -/
def State.peek (s : State) (addr : Word) : Byte := Memory.read s.mem addr.toNat

/-- Memory with one byte changed, with no access made. -/
def State.poke (addr : Word) (w : Byte) (s : State) : State := s.setMem (Memory.write s.mem addr.toNat w)

/-- `MemRead(addr, 1)` (R41, R43): a byte and one tick, or a refusal and none. -/
def memRead (addr : Word) (s : State) : Result (Byte × State) :=
  match s.kindAt addr with
  | .ram => .next (s.peek addr, s.tick 1)
  | .rom => .next (s.peek addr, s.tick 1)
  | .writeOnly => raiseMemoryFault addr s
  | .absent => raiseMemoryFault addr s
  | .device =>
    match Config.deviceRead s.deviceLog addr with
    | some w => .next (w, (s.logAccess (.read addr (some w))).tick 1)
    | none => raiseMemoryFault addr (s.logAccess (.read addr none))

/-- `MemWrite(addr, 1, v)` (R42, R43). -/
def memWrite (addr : Word) (w : Byte) (s : State) : Result State :=
  match s.kindAt addr with
  | .ram => .next ((s.poke addr w).tick 1)
  | .writeOnly => .next ((s.poke addr w).tick 1)
  | .rom => raiseMemoryFault addr s
  | .absent => raiseMemoryFault addr s
  | .device =>
    if Config.deviceWrite s.deviceLog addr w then .next ((s.logAccess (.write addr w true)).tick 1)
    else raiseMemoryFault addr (s.logAccess (.write addr w false))

/-- `Read16(addr)` (R57): low byte first, the second address modulo 65,536. -/
def read16 (addr : Word) (s : State) : Result (Word × State) :=
  bindVal (memRead addr s) fun lo s =>
  bindVal (memRead (addr + 1) s) fun hi s =>
  .next (word hi lo, s)

/-- `Fetch8()` (41_addressing_modes.md R111): PC moves only after the read. -/
def fetch8 (s : State) : Result (Byte × State) :=
  bindVal (memRead s.pc s) fun w s => .next (w, s.setPC (s.pc + 1))

/-! ## The stack (R125, R129) -/

/-- `{0x01, S}`. -/
def stackAddr (sp : Byte) : Word := word 0x01 sp

/-- `Push(v)`: write, then S goes down by 1 modulo 256. -/
def push (w : Byte) (s : State) : Result State :=
  seq (memWrite (stackAddr s.sp) w s) fun s => .next (s.setSP (s.sp - 1))

/-- `Pull()`: S goes up by 1 modulo 256, then read. -/
def pull (s : State) : Result (Byte × State) :=
  let s := s.setSP (s.sp + 1)
  memRead (stackAddr s.sp) s

/-- `Push16(w)`: high byte first. -/
def push16 (w : Word) (s : State) : Result State :=
  seq (push (hiByte w) s) fun s => push (loByte w) s

/-- `Pull16()`: low byte first. -/
def pull16 (s : State) : Result (Word × State) :=
  bindVal (pull s) fun lo s =>
  bindVal (pull s) fun hi s =>
  .next (word hi lo, s)

/-! ## Interrupts (60_exceptions.md R233 to R245) -/

/-- The NMI vector (R240). -/
def nmiVector : Word := 0xFFFA

/-- The RESET vector (R240). -/
def resetVector : Word := 0xFFFC

/-- The vector IRQ and BRK share (R240). -/
def irqVector : Word := 0xFFFE

/-- The flags trap entry writes: I is forced, B only under B_WRITEBACK (R238, R239). -/
def State.trapFlags (forcedB : Bool) (s : State) : State :=
  (if s.cfg.bWriteback then s.setB forcedB else s).setI true

/-- `TrapEntry(vector, b)` (R238), shared by NMI, IRQ and BRK: PC and the status byte pushed, I set, PC loaded
from the vector after both its bytes are read. -/
def trapEntry (vector : Word) (forcedB : Bool) (s : State) : Result State :=
  seq (push16 s.pc s) fun s =>
  seq (push (s.statusByte forcedB) s) fun s =>
  bindVal (read16 vector (s.trapFlags forcedB)) fun target s =>
  .next (s.setPC target)

/-- Return from an interrupt (R242; 46_control_flow.md R223): the flags, then PC, as they lie on the stack. -/
def trapReturn (s : State) : Result State :=
  bindVal (pull s) fun w s =>
  bindVal (pull16 (s.unpack w)) fun target s =>
  .next (s.setPC target)

/-- The NMI response (R234): the latch is cleared first. -/
def nmiResponse (s : State) : Result State := trapEntry nmiVector false (s.clearNmi.tick 2)

/-- The IRQ response (R235). -/
def irqResponse (s : State) : Result State := trapEntry irqVector false (s.tick 2)

/-- The poll at the start of a step (R236): NMI first, then IRQ if unmasked, at most one response. -/
def pollInterrupts (s : State) : Result State :=
  if s.nmiPending then nmiResponse s
  else if s.irqLine && !s.i then irqResponse s
  else .next s

end Sys2Proof.Machine
end

