-- ==== Sys2Proof/Syntax.lean ====
section
/-! DEFINITION. The instructions: one constructor of `Instr` for each row of spec/opcode_table.json (30_encoding.md
R76, R77), each with its operand bytes assembled as R73 says, and the (mnemonic, mode) pair of each (R74). -/

namespace Sys2Proof

/-- The 13 addressing-mode tags (R75). -/
inductive Mode
  | imp
  | acc
  | imm
  | zp
  | zpx
  | zpy
  | abs
  | abx
  | aby
  | ind
  | izx
  | izy
  | rel
deriving DecidableEq, Repr

/-- The nine modes that have an effective address in memory, with their operand (R73). -/
inductive AddrMode
  | zp (b : Byte)
  | zpx (b : Byte)
  | zpy (b : Byte)
  | abs (w : Word)
  | abx (w : Word)
  | aby (w : Word)
  | ind (w : Word)
  | izx (b : Byte)
  | izy (b : Byte)
deriving DecidableEq, Repr

/-- The operand of a read-type instruction: the byte itself (IMM), or a byte of memory. -/
inductive Source
  | imm (w : Byte)
  | mem (m : AddrMode)
deriving DecidableEq, Repr

/-- The instructions that read one operand byte. -/
inductive ReadOp
  | lda
  | ldx
  | ldy
  | adc
  | sbc
  | cmp
  | cpx
  | cpy
  | and
  | ora
  | eor
  | bit
deriving DecidableEq, Repr

/-- The stores. -/
inductive StoreOp
  | sta
  | stx
  | sty
deriving DecidableEq, Repr

/-- The read-modify-write instructions. -/
inductive ModifyOp
  | asl
  | lsr
  | rol
  | ror
  | inc
  | dec
deriving DecidableEq, Repr

/-- The conditional branches. -/
inductive BranchOp
  | bcc
  | bcs
  | beq
  | bne
  | bmi
  | bpl
  | bvc
  | bvs
deriving DecidableEq, Repr

/-- The instructions of mode IMP. -/
inductive ImpliedOp
  | tax
  | tay
  | tsx
  | txa
  | txs
  | tya
  | inx
  | iny
  | dex
  | dey
  | pha
  | php
  | pla
  | plp
  | clc
  | sec
  | cli
  | sei
  | cld
  | sed
  | clv
  | nop
  | rts
  | brk
  | rti
deriving DecidableEq, Repr

/-- A mnemonic with an operand in some mode: what the opcode table pairs with an opcode (R74). Not every pair is
in the table: `Form.wellFormed` says which are. -/
inductive Form
  | read (op : ReadOp) (src : Source)
  | store (op : StoreOp) (m : AddrMode)
  | modify (op : ModifyOp) (m : AddrMode)
  | modifyAcc (op : ModifyOp)
  | branch (op : BranchOp) (d : Byte)
  | jump (m : AddrMode)
  | call (w : Word)
  | implied (op : ImpliedOp)
  | unassigned (opcode : Byte)
deriving DecidableEq, Repr

/-- The instructions, one constructor for each opcode byte: those with operand bytes in opcode order, then those
without (Lean's runtime wants constructors with fields among the first 244). `b` is a zero-page byte, `w` an
immediate byte or an absolute word, `d` a branch displacement. -/
inductive Instr
  | oraIzx (b : Byte)
  | oraZp (b : Byte)
  | aslZp (b : Byte)
  | oraImm (w : Byte)
  | oraAbs (w : Word)
  | aslAbs (w : Word)
  | bplRel (d : Byte)
  | oraIzy (b : Byte)
  | oraZpx (b : Byte)
  | aslZpx (b : Byte)
  | oraAby (w : Word)
  | oraAbx (w : Word)
  | aslAbx (w : Word)
  | jsrAbs (w : Word)
  | andIzx (b : Byte)
  | bitZp (b : Byte)
  | andZp (b : Byte)
  | rolZp (b : Byte)
  | andImm (w : Byte)
  | bitAbs (w : Word)
  | andAbs (w : Word)
  | rolAbs (w : Word)
  | bmiRel (d : Byte)
  | andIzy (b : Byte)
  | andZpx (b : Byte)
  | rolZpx (b : Byte)
  | andAby (w : Word)
  | andAbx (w : Word)
  | rolAbx (w : Word)
  | eorIzx (b : Byte)
  | eorZp (b : Byte)
  | lsrZp (b : Byte)
  | eorImm (w : Byte)
  | jmpAbs (w : Word)
  | eorAbs (w : Word)
  | lsrAbs (w : Word)
  | bvcRel (d : Byte)
  | eorIzy (b : Byte)
  | eorZpx (b : Byte)
  | lsrZpx (b : Byte)
  | eorAby (w : Word)
  | eorAbx (w : Word)
  | lsrAbx (w : Word)
  | adcIzx (b : Byte)
  | adcZp (b : Byte)
  | rorZp (b : Byte)
  | adcImm (w : Byte)
  | jmpInd (w : Word)
  | adcAbs (w : Word)
  | rorAbs (w : Word)
  | bvsRel (d : Byte)
  | adcIzy (b : Byte)
  | adcZpx (b : Byte)
  | rorZpx (b : Byte)
  | adcAby (w : Word)
  | adcAbx (w : Word)
  | rorAbx (w : Word)
  | staIzx (b : Byte)
  | styZp (b : Byte)
  | staZp (b : Byte)
  | stxZp (b : Byte)
  | styAbs (w : Word)
  | staAbs (w : Word)
  | stxAbs (w : Word)
  | bccRel (d : Byte)
  | staIzy (b : Byte)
  | styZpx (b : Byte)
  | staZpx (b : Byte)
  | stxZpy (b : Byte)
  | staAby (w : Word)
  | staAbx (w : Word)
  | ldyImm (w : Byte)
  | ldaIzx (b : Byte)
  | ldxImm (w : Byte)
  | ldyZp (b : Byte)
  | ldaZp (b : Byte)
  | ldxZp (b : Byte)
  | ldaImm (w : Byte)
  | ldyAbs (w : Word)
  | ldaAbs (w : Word)
  | ldxAbs (w : Word)
  | bcsRel (d : Byte)
  | ldaIzy (b : Byte)
  | ldyZpx (b : Byte)
  | ldaZpx (b : Byte)
  | ldxZpy (b : Byte)
  | ldaAby (w : Word)
  | ldyAbx (w : Word)
  | ldaAbx (w : Word)
  | ldxAby (w : Word)
  | cpyImm (w : Byte)
  | cmpIzx (b : Byte)
  | cpyZp (b : Byte)
  | cmpZp (b : Byte)
  | decZp (b : Byte)
  | cmpImm (w : Byte)
  | cpyAbs (w : Word)
  | cmpAbs (w : Word)
  | decAbs (w : Word)
  | bneRel (d : Byte)
  | cmpIzy (b : Byte)
  | cmpZpx (b : Byte)
  | decZpx (b : Byte)
  | cmpAby (w : Word)
  | cmpAbx (w : Word)
  | decAbx (w : Word)
  | cpxImm (w : Byte)
  | sbcIzx (b : Byte)
  | cpxZp (b : Byte)
  | sbcZp (b : Byte)
  | incZp (b : Byte)
  | sbcImm (w : Byte)
  | cpxAbs (w : Word)
  | sbcAbs (w : Word)
  | incAbs (w : Word)
  | beqRel (d : Byte)
  | sbcIzy (b : Byte)
  | sbcZpx (b : Byte)
  | incZpx (b : Byte)
  | sbcAby (w : Word)
  | sbcAbx (w : Word)
  | incAbx (w : Word)
  | brkImp
  | unassigned02
  | unassigned03
  | unassigned04
  | unassigned07
  | phpImp
  | aslAcc
  | unassigned0B
  | unassigned0C
  | unassigned0F
  | unassigned12
  | unassigned13
  | unassigned14
  | unassigned17
  | clcImp
  | unassigned1A
  | unassigned1B
  | unassigned1C
  | unassigned1F
  | unassigned22
  | unassigned23
  | unassigned27
  | plpImp
  | rolAcc
  | unassigned2B
  | unassigned2F
  | unassigned32
  | unassigned33
  | unassigned34
  | unassigned37
  | secImp
  | unassigned3A
  | unassigned3B
  | unassigned3C
  | unassigned3F
  | rtiImp
  | unassigned42
  | unassigned43
  | unassigned44
  | unassigned47
  | phaImp
  | lsrAcc
  | unassigned4B
  | unassigned4F
  | unassigned52
  | unassigned53
  | unassigned54
  | unassigned57
  | cliImp
  | unassigned5A
  | unassigned5B
  | unassigned5C
  | unassigned5F
  | rtsImp
  | unassigned62
  | unassigned63
  | unassigned64
  | unassigned67
  | plaImp
  | rorAcc
  | unassigned6B
  | unassigned6F
  | unassigned72
  | unassigned73
  | unassigned74
  | unassigned77
  | seiImp
  | unassigned7A
  | unassigned7B
  | unassigned7C
  | unassigned7F
  | unassigned80
  | unassigned82
  | unassigned83
  | unassigned87
  | deyImp
  | unassigned89
  | txaImp
  | unassigned8B
  | unassigned8F
  | unassigned92
  | unassigned93
  | unassigned97
  | tyaImp
  | txsImp
  | unassigned9B
  | unassigned9C
  | unassigned9E
  | unassigned9F
  | unassignedA3
  | unassignedA7
  | tayImp
  | taxImp
  | unassignedAB
  | unassignedAF
  | unassignedB2
  | unassignedB3
  | unassignedB7
  | clvImp
  | tsxImp
  | unassignedBB
  | unassignedBF
  | unassignedC2
  | unassignedC3
  | unassignedC7
  | inyImp
  | dexImp
  | unassignedCB
  | unassignedCF
  | unassignedD2
  | unassignedD3
  | unassignedD4
  | unassignedD7
  | cldImp
  | unassignedDA
  | unassignedDB
  | unassignedDC
  | unassignedDF
  | unassignedE2
  | unassignedE3
  | unassignedE7
  | inxImp
  | nopImp
  | unassignedEB
  | unassignedEF
  | unassignedF2
  | unassignedF3
  | unassignedF4
  | unassignedF7
  | sedImp
  | unassignedFA
  | unassignedFB
  | unassignedFC
  | unassignedFF
deriving DecidableEq, Repr

/-- The pair the opcode table gives an instruction, with its operand (R74, R76, R77). -/
def Instr.form : Instr → Form
  | .brkImp => .implied .brk
  | .oraIzx b => .read .ora (.mem (.izx b))
  | .unassigned02 => .unassigned 0x02
  | .unassigned03 => .unassigned 0x03
  | .unassigned04 => .unassigned 0x04
  | .oraZp b => .read .ora (.mem (.zp b))
  | .aslZp b => .modify .asl (.zp b)
  | .unassigned07 => .unassigned 0x07
  | .phpImp => .implied .php
  | .oraImm w => .read .ora (.imm w)
  | .aslAcc => .modifyAcc .asl
  | .unassigned0B => .unassigned 0x0B
  | .unassigned0C => .unassigned 0x0C
  | .oraAbs w => .read .ora (.mem (.abs w))
  | .aslAbs w => .modify .asl (.abs w)
  | .unassigned0F => .unassigned 0x0F
  | .bplRel d => .branch .bpl d
  | .oraIzy b => .read .ora (.mem (.izy b))
  | .unassigned12 => .unassigned 0x12
  | .unassigned13 => .unassigned 0x13
  | .unassigned14 => .unassigned 0x14
  | .oraZpx b => .read .ora (.mem (.zpx b))
  | .aslZpx b => .modify .asl (.zpx b)
  | .unassigned17 => .unassigned 0x17
  | .clcImp => .implied .clc
  | .oraAby w => .read .ora (.mem (.aby w))
  | .unassigned1A => .unassigned 0x1A
  | .unassigned1B => .unassigned 0x1B
  | .unassigned1C => .unassigned 0x1C
  | .oraAbx w => .read .ora (.mem (.abx w))
  | .aslAbx w => .modify .asl (.abx w)
  | .unassigned1F => .unassigned 0x1F
  | .jsrAbs w => .call w
  | .andIzx b => .read .and (.mem (.izx b))
  | .unassigned22 => .unassigned 0x22
  | .unassigned23 => .unassigned 0x23
  | .bitZp b => .read .bit (.mem (.zp b))
  | .andZp b => .read .and (.mem (.zp b))
  | .rolZp b => .modify .rol (.zp b)
  | .unassigned27 => .unassigned 0x27
  | .plpImp => .implied .plp
  | .andImm w => .read .and (.imm w)
  | .rolAcc => .modifyAcc .rol
  | .unassigned2B => .unassigned 0x2B
  | .bitAbs w => .read .bit (.mem (.abs w))
  | .andAbs w => .read .and (.mem (.abs w))
  | .rolAbs w => .modify .rol (.abs w)
  | .unassigned2F => .unassigned 0x2F
  | .bmiRel d => .branch .bmi d
  | .andIzy b => .read .and (.mem (.izy b))
  | .unassigned32 => .unassigned 0x32
  | .unassigned33 => .unassigned 0x33
  | .unassigned34 => .unassigned 0x34
  | .andZpx b => .read .and (.mem (.zpx b))
  | .rolZpx b => .modify .rol (.zpx b)
  | .unassigned37 => .unassigned 0x37
  | .secImp => .implied .sec
  | .andAby w => .read .and (.mem (.aby w))
  | .unassigned3A => .unassigned 0x3A
  | .unassigned3B => .unassigned 0x3B
  | .unassigned3C => .unassigned 0x3C
  | .andAbx w => .read .and (.mem (.abx w))
  | .rolAbx w => .modify .rol (.abx w)
  | .unassigned3F => .unassigned 0x3F
  | .rtiImp => .implied .rti
  | .eorIzx b => .read .eor (.mem (.izx b))
  | .unassigned42 => .unassigned 0x42
  | .unassigned43 => .unassigned 0x43
  | .unassigned44 => .unassigned 0x44
  | .eorZp b => .read .eor (.mem (.zp b))
  | .lsrZp b => .modify .lsr (.zp b)
  | .unassigned47 => .unassigned 0x47
  | .phaImp => .implied .pha
  | .eorImm w => .read .eor (.imm w)
  | .lsrAcc => .modifyAcc .lsr
  | .unassigned4B => .unassigned 0x4B
  | .jmpAbs w => .jump (.abs w)
  | .eorAbs w => .read .eor (.mem (.abs w))
  | .lsrAbs w => .modify .lsr (.abs w)
  | .unassigned4F => .unassigned 0x4F
  | .bvcRel d => .branch .bvc d
  | .eorIzy b => .read .eor (.mem (.izy b))
  | .unassigned52 => .unassigned 0x52
  | .unassigned53 => .unassigned 0x53
  | .unassigned54 => .unassigned 0x54
  | .eorZpx b => .read .eor (.mem (.zpx b))
  | .lsrZpx b => .modify .lsr (.zpx b)
  | .unassigned57 => .unassigned 0x57
  | .cliImp => .implied .cli
  | .eorAby w => .read .eor (.mem (.aby w))
  | .unassigned5A => .unassigned 0x5A
  | .unassigned5B => .unassigned 0x5B
  | .unassigned5C => .unassigned 0x5C
  | .eorAbx w => .read .eor (.mem (.abx w))
  | .lsrAbx w => .modify .lsr (.abx w)
  | .unassigned5F => .unassigned 0x5F
  | .rtsImp => .implied .rts
  | .adcIzx b => .read .adc (.mem (.izx b))
  | .unassigned62 => .unassigned 0x62
  | .unassigned63 => .unassigned 0x63
  | .unassigned64 => .unassigned 0x64
  | .adcZp b => .read .adc (.mem (.zp b))
  | .rorZp b => .modify .ror (.zp b)
  | .unassigned67 => .unassigned 0x67
  | .plaImp => .implied .pla
  | .adcImm w => .read .adc (.imm w)
  | .rorAcc => .modifyAcc .ror
  | .unassigned6B => .unassigned 0x6B
  | .jmpInd w => .jump (.ind w)
  | .adcAbs w => .read .adc (.mem (.abs w))
  | .rorAbs w => .modify .ror (.abs w)
  | .unassigned6F => .unassigned 0x6F
  | .bvsRel d => .branch .bvs d
  | .adcIzy b => .read .adc (.mem (.izy b))
  | .unassigned72 => .unassigned 0x72
  | .unassigned73 => .unassigned 0x73
  | .unassigned74 => .unassigned 0x74
  | .adcZpx b => .read .adc (.mem (.zpx b))
  | .rorZpx b => .modify .ror (.zpx b)
  | .unassigned77 => .unassigned 0x77
  | .seiImp => .implied .sei
  | .adcAby w => .read .adc (.mem (.aby w))
  | .unassigned7A => .unassigned 0x7A
  | .unassigned7B => .unassigned 0x7B
  | .unassigned7C => .unassigned 0x7C
  | .adcAbx w => .read .adc (.mem (.abx w))
  | .rorAbx w => .modify .ror (.abx w)
  | .unassigned7F => .unassigned 0x7F
  | .unassigned80 => .unassigned 0x80
  | .staIzx b => .store .sta (.izx b)
  | .unassigned82 => .unassigned 0x82
  | .unassigned83 => .unassigned 0x83
  | .styZp b => .store .sty (.zp b)
  | .staZp b => .store .sta (.zp b)
  | .stxZp b => .store .stx (.zp b)
  | .unassigned87 => .unassigned 0x87
  | .deyImp => .implied .dey
  | .unassigned89 => .unassigned 0x89
  | .txaImp => .implied .txa
  | .unassigned8B => .unassigned 0x8B
  | .styAbs w => .store .sty (.abs w)
  | .staAbs w => .store .sta (.abs w)
  | .stxAbs w => .store .stx (.abs w)
  | .unassigned8F => .unassigned 0x8F
  | .bccRel d => .branch .bcc d
  | .staIzy b => .store .sta (.izy b)
  | .unassigned92 => .unassigned 0x92
  | .unassigned93 => .unassigned 0x93
  | .styZpx b => .store .sty (.zpx b)
  | .staZpx b => .store .sta (.zpx b)
  | .stxZpy b => .store .stx (.zpy b)
  | .unassigned97 => .unassigned 0x97
  | .tyaImp => .implied .tya
  | .staAby w => .store .sta (.aby w)
  | .txsImp => .implied .txs
  | .unassigned9B => .unassigned 0x9B
  | .unassigned9C => .unassigned 0x9C
  | .staAbx w => .store .sta (.abx w)
  | .unassigned9E => .unassigned 0x9E
  | .unassigned9F => .unassigned 0x9F
  | .ldyImm w => .read .ldy (.imm w)
  | .ldaIzx b => .read .lda (.mem (.izx b))
  | .ldxImm w => .read .ldx (.imm w)
  | .unassignedA3 => .unassigned 0xA3
  | .ldyZp b => .read .ldy (.mem (.zp b))
  | .ldaZp b => .read .lda (.mem (.zp b))
  | .ldxZp b => .read .ldx (.mem (.zp b))
  | .unassignedA7 => .unassigned 0xA7
  | .tayImp => .implied .tay
  | .ldaImm w => .read .lda (.imm w)
  | .taxImp => .implied .tax
  | .unassignedAB => .unassigned 0xAB
  | .ldyAbs w => .read .ldy (.mem (.abs w))
  | .ldaAbs w => .read .lda (.mem (.abs w))
  | .ldxAbs w => .read .ldx (.mem (.abs w))
  | .unassignedAF => .unassigned 0xAF
  | .bcsRel d => .branch .bcs d
  | .ldaIzy b => .read .lda (.mem (.izy b))
  | .unassignedB2 => .unassigned 0xB2
  | .unassignedB3 => .unassigned 0xB3
  | .ldyZpx b => .read .ldy (.mem (.zpx b))
  | .ldaZpx b => .read .lda (.mem (.zpx b))
  | .ldxZpy b => .read .ldx (.mem (.zpy b))
  | .unassignedB7 => .unassigned 0xB7
  | .clvImp => .implied .clv
  | .ldaAby w => .read .lda (.mem (.aby w))
  | .tsxImp => .implied .tsx
  | .unassignedBB => .unassigned 0xBB
  | .ldyAbx w => .read .ldy (.mem (.abx w))
  | .ldaAbx w => .read .lda (.mem (.abx w))
  | .ldxAby w => .read .ldx (.mem (.aby w))
  | .unassignedBF => .unassigned 0xBF
  | .cpyImm w => .read .cpy (.imm w)
  | .cmpIzx b => .read .cmp (.mem (.izx b))
  | .unassignedC2 => .unassigned 0xC2
  | .unassignedC3 => .unassigned 0xC3
  | .cpyZp b => .read .cpy (.mem (.zp b))
  | .cmpZp b => .read .cmp (.mem (.zp b))
  | .decZp b => .modify .dec (.zp b)
  | .unassignedC7 => .unassigned 0xC7
  | .inyImp => .implied .iny
  | .cmpImm w => .read .cmp (.imm w)
  | .dexImp => .implied .dex
  | .unassignedCB => .unassigned 0xCB
  | .cpyAbs w => .read .cpy (.mem (.abs w))
  | .cmpAbs w => .read .cmp (.mem (.abs w))
  | .decAbs w => .modify .dec (.abs w)
  | .unassignedCF => .unassigned 0xCF
  | .bneRel d => .branch .bne d
  | .cmpIzy b => .read .cmp (.mem (.izy b))
  | .unassignedD2 => .unassigned 0xD2
  | .unassignedD3 => .unassigned 0xD3
  | .unassignedD4 => .unassigned 0xD4
  | .cmpZpx b => .read .cmp (.mem (.zpx b))
  | .decZpx b => .modify .dec (.zpx b)
  | .unassignedD7 => .unassigned 0xD7
  | .cldImp => .implied .cld
  | .cmpAby w => .read .cmp (.mem (.aby w))
  | .unassignedDA => .unassigned 0xDA
  | .unassignedDB => .unassigned 0xDB
  | .unassignedDC => .unassigned 0xDC
  | .cmpAbx w => .read .cmp (.mem (.abx w))
  | .decAbx w => .modify .dec (.abx w)
  | .unassignedDF => .unassigned 0xDF
  | .cpxImm w => .read .cpx (.imm w)
  | .sbcIzx b => .read .sbc (.mem (.izx b))
  | .unassignedE2 => .unassigned 0xE2
  | .unassignedE3 => .unassigned 0xE3
  | .cpxZp b => .read .cpx (.mem (.zp b))
  | .sbcZp b => .read .sbc (.mem (.zp b))
  | .incZp b => .modify .inc (.zp b)
  | .unassignedE7 => .unassigned 0xE7
  | .inxImp => .implied .inx
  | .sbcImm w => .read .sbc (.imm w)
  | .nopImp => .implied .nop
  | .unassignedEB => .unassigned 0xEB
  | .cpxAbs w => .read .cpx (.mem (.abs w))
  | .sbcAbs w => .read .sbc (.mem (.abs w))
  | .incAbs w => .modify .inc (.abs w)
  | .unassignedEF => .unassigned 0xEF
  | .beqRel d => .branch .beq d
  | .sbcIzy b => .read .sbc (.mem (.izy b))
  | .unassignedF2 => .unassigned 0xF2
  | .unassignedF3 => .unassigned 0xF3
  | .unassignedF4 => .unassigned 0xF4
  | .sbcZpx b => .read .sbc (.mem (.zpx b))
  | .incZpx b => .modify .inc (.zpx b)
  | .unassignedF7 => .unassigned 0xF7
  | .sedImp => .implied .sed
  | .sbcAby w => .read .sbc (.mem (.aby w))
  | .unassignedFA => .unassigned 0xFA
  | .unassignedFB => .unassigned 0xFB
  | .unassignedFC => .unassigned 0xFC
  | .sbcAbx w => .read .sbc (.mem (.abx w))
  | .incAbx w => .modify .inc (.abx w)
  | .unassignedFF => .unassigned 0xFF

/-- The tag of an addressing mode. -/
def AddrMode.tag : AddrMode → Mode
  | .zp _ => .zp
  | .zpx _ => .zpx
  | .zpy _ => .zpy
  | .abs _ => .abs
  | .abx _ => .abx
  | .aby _ => .aby
  | .ind _ => .ind
  | .izx _ => .izx
  | .izy _ => .izy

/-- The tag of a read operand. -/
def Source.tag : Source → Mode
  | .imm _ => .imm
  | .mem m => m.tag

/-- The addressing-mode tag of a pair; an unassigned opcode has none (R74). -/
def Form.mode : Form → Option Mode
  | .read _ src => some src.tag
  | .store _ m => some m.tag
  | .modify _ m => some m.tag
  | .modifyAcc _ => some .acc
  | .branch _ _ => some .rel
  | .jump m => some m.tag
  | .call _ => some .abs
  | .implied _ => some .imp
  | .unassigned _ => none

/-- The mnemonic as the spec writes it. -/
def ReadOp.name : ReadOp → String
  | .lda => "LDA"
  | .ldx => "LDX"
  | .ldy => "LDY"
  | .adc => "ADC"
  | .sbc => "SBC"
  | .cmp => "CMP"
  | .cpx => "CPX"
  | .cpy => "CPY"
  | .and => "AND"
  | .ora => "ORA"
  | .eor => "EOR"
  | .bit => "BIT"

/-- The mnemonic as the spec writes it. -/
def StoreOp.name : StoreOp → String
  | .sta => "STA"
  | .stx => "STX"
  | .sty => "STY"

/-- The mnemonic as the spec writes it. -/
def ModifyOp.name : ModifyOp → String
  | .asl => "ASL"
  | .lsr => "LSR"
  | .rol => "ROL"
  | .ror => "ROR"
  | .inc => "INC"
  | .dec => "DEC"

/-- The mnemonic as the spec writes it. -/
def BranchOp.name : BranchOp → String
  | .bcc => "BCC"
  | .bcs => "BCS"
  | .beq => "BEQ"
  | .bne => "BNE"
  | .bmi => "BMI"
  | .bpl => "BPL"
  | .bvc => "BVC"
  | .bvs => "BVS"

/-- The mnemonic as the spec writes it. -/
def ImpliedOp.name : ImpliedOp → String
  | .tax => "TAX"
  | .tay => "TAY"
  | .tsx => "TSX"
  | .txa => "TXA"
  | .txs => "TXS"
  | .tya => "TYA"
  | .inx => "INX"
  | .iny => "INY"
  | .dex => "DEX"
  | .dey => "DEY"
  | .pha => "PHA"
  | .php => "PHP"
  | .pla => "PLA"
  | .plp => "PLP"
  | .clc => "CLC"
  | .sec => "SEC"
  | .cli => "CLI"
  | .sei => "SEI"
  | .cld => "CLD"
  | .sed => "SED"
  | .clv => "CLV"
  | .nop => "NOP"
  | .rts => "RTS"
  | .brk => "BRK"
  | .rti => "RTI"

/-- The mnemonic of a pair; the unassigned opcodes share one here. -/
def Form.mnemonic : Form → String
  | .read op _ => op.name
  | .store op _ => op.name
  | .modify op _ => op.name
  | .modifyAcc op => op.name
  | .branch op _ => op.name
  | .jump _ => "JMP"
  | .call _ => "JSR"
  | .implied op => op.name
  | .unassigned _ => "UNASSIGNED"

/-- The mnemonic of an instruction. -/
def Instr.mnemonic (i : Instr) : String := i.form.mnemonic

/-- The addressing-mode tag of an instruction. -/
def Instr.mode (i : Instr) : Option Mode := i.form.mode

end Sys2Proof
end

