-- ==== Sys2Proof/Machine/Operands.lean ====
section
/-! DEFINITION. The addressing resolver (spec 41_addressing_modes.md): the effective address of every mode
that has one, with its pointer reads and page-cross penalty, and the operand access helpers of R128. The
operand bytes have been fetched by the step (log 11). -/

namespace Sys2Proof.Machine

/-! ## Addresses as expressions -/

/-- Whether an index addition changed the page (R126). -/
def pageCrossed (base ea : Word) : Bool := hiByte ea != hiByte base

/-- The page-cross penalty (R126): one tick exactly when the page changed. -/
def pagePenalty (base ea : Word) (s : State) : State :=
  if pageCrossed base ea then s.tick 1 else s

/-- The address of the high byte of the indirect jump's pointer: the same page, always (R121). -/
def indHighAddr (ptr : Word) : Word := word (hiByte ptr) (loByte ptr + 1)

/-- A word read at two given addresses, low byte first. -/
def readPair (loAddr hiAddr : Word) (s : State) : Result (Word × State) :=
  bindVal (memRead loAddr s) fun lo s =>
  bindVal (memRead hiAddr s) fun hi s =>
  .next (word hi lo, s)

/-- A zero-page pointer: its second byte wraps in page 0 (R122, R123). -/
def readZeroPagePointer (zp : Byte) (s : State) : Result (Word × State) :=
  readPair (zext16 zp) (zext16 (zp + 1)) s

/-! ## The resolver -/

/-- `Resolve(mode)` (R110) for the modes that have an effective address, after the operand bytes. -/
def resolve : AddrMode → State → Result (Word × State)
  | .zp b, s => .next (zext16 b, s)
  | .zpx b, s => .next (zext16 (b + s.x), s)
  | .zpy b, s => .next (zext16 (b + s.y), s)
  | .abs w, s => .next (w, s)
  | .abx w, s => .next (w + zext16 s.x, pagePenalty w (w + zext16 s.x) s)
  | .aby w, s => .next (w + zext16 s.y, pagePenalty w (w + zext16 s.y) s)
  | .ind w, s => readPair w (indHighAddr w) s
  | .izx b, s => readZeroPagePointer (b + s.x) s
  | .izy b, s =>
    bindVal (readZeroPagePointer b s) fun base s =>
    .next (base + zext16 s.y, pagePenalty base (base + zext16 s.y) s)

/-! ## Operand access (R128) -/

/-- `LoadOperand(mode)`. An immediate operand is the byte the step fetched (R114; log 11). -/
def loadOperand : Source → State → Result (Byte × State)
  | .imm w, s => .next (w, s)
  | .mem m, s => bindVal (resolve m s) fun ea s => memRead ea s

/-- `StoreOperand(mode, v)`. -/
def storeOperand (m : AddrMode) (w : Byte) (s : State) : Result State :=
  bindVal (resolve m s) fun ea s => memWrite ea w s

/-- `ModifyOperand(mode, f)`: one read, the flags, one write, in that order. -/
def modifyOperand (m : AddrMode) (f : Byte → State → Byte × State) (s : State) : Result State :=
  bindVal (resolve m s) fun ea s =>
  bindVal (memRead ea s) fun old s =>
  memWrite ea (f old s).1 (f old s).2

/-- The accumulator form of a read-modify-write (R113, R178): no bus access. -/
def modifyAccumulator (f : Byte → State → Byte × State) (s : State) : Result State :=
  .next ((f s.a s).2.setA (f s.a s).1)

/-! ## The same as functions of the state, where every read lands on plain memory

Statements use these: what an instruction's operand is, which addresses it reads, what it costs. -/

/-- The word at two addresses. -/
def State.peekPair (s : State) (loAddr hiAddr : Word) : Word := word (s.peek hiAddr) (s.peek loAddr)

/-- The word at a zero-page pointer. -/
def State.peekZeroPage (s : State) (zp : Byte) : Word := s.peekPair (zext16 zp) (zext16 (zp + 1))

/-- The effective address of a mode (R115 to R123). -/
def effAddr : AddrMode → State → Word
  | .zp b, _ => zext16 b
  | .zpx b, s => zext16 (b + s.x)
  | .zpy b, s => zext16 (b + s.y)
  | .abs w, _ => w
  | .abx w, s => w + zext16 s.x
  | .aby w, s => w + zext16 s.y
  | .ind w, s => s.peekPair w (indHighAddr w)
  | .izx b, s => s.peekZeroPage (b + s.x)
  | .izy b, s => s.peekZeroPage b + zext16 s.y

/-- A read of the address answers what memory holds. -/
def State.readable (s : State) (addr : Word) : Bool :=
  decide (s.kindAt addr = .ram) || decide (s.kindAt addr = .rom)

/-- A write of the address is accepted and kept by memory. -/
def State.writable (s : State) (addr : Word) : Bool :=
  decide (s.kindAt addr = .ram) || decide (s.kindAt addr = .writeOnly)

/-- The pointer bytes a mode reads are readable. -/
def pointerReadable : AddrMode → State → Bool
  | .ind w, s => s.readable w && s.readable (indHighAddr w)
  | .izx b, s => s.readable (zext16 (b + s.x)) && s.readable (zext16 (b + s.x + 1))
  | .izy b, s => s.readable (zext16 b) && s.readable (zext16 (b + 1))
  | _, _ => true

/-- What a mode costs beyond its operand bytes: pointer reads and the page-cross penalty (R126). -/
def resolveCost : AddrMode → State → Nat
  | .abx w, s => (pageCrossed w (w + zext16 s.x)).toNat
  | .aby w, s => (pageCrossed w (w + zext16 s.y)).toNat
  | .ind _, _ => 2
  | .izx _, _ => 2
  | .izy b, s => 2 + (pageCrossed (s.peekZeroPage b) (s.peekZeroPage b + zext16 s.y)).toNat
  | _, _ => 0

/-- Every read of a read-type operand lands on plain memory. -/
def sourceReady : Source → State → Bool
  | .imm _, _ => true
  | .mem m, s => pointerReadable m s && s.readable (effAddr m s)

/-- The operand byte M. -/
def sourceValue : Source → State → Byte
  | .imm w, _ => w
  | .mem m, s => s.peek (effAddr m s)

/-- The cycles the operand costs after the operand bytes. -/
def sourceCost : Source → State → Nat
  | .imm _, _ => 0
  | .mem m, s => resolveCost m s + 1

end Sys2Proof.Machine
end

