-- ==== Sys2Proof/Machine/ReadForms.lean ====
section
/-! DEFINITION. The shape the twelve read-type instructions share: read the operand byte, then change registers
and flags, with no access after the read. -/

namespace Sys2Proof.Machine

/-- `M <- LoadOperand(mode)`, then `f M` (40_step_and_dispatch.md R95). -/
def readWith (f : Byte → State → State) (src : Source) (s : State) : Result State :=
  bindVal (loadOperand src s) fun w s => .next (f w s)

end Sys2Proof.Machine
end

