-- ==== Sys2Proof/Machine/Arithmetic.lean ====
section
/-! DEFINITION. Add, subtract, compare, increment, decrement (spec 43_arithmetic_compare.md). -/

namespace Sys2Proof.Machine

/-- ADC (R150). -/
def adc (src : Source) (s : State) : Result State := readWith State.adc src s

/-- ADC IZX (61) (R150, R122). -/
def execAdcIzx (b : Byte) (s : State) : Result State := adc (.mem (.izx b)) s

/-- ADC ZP (65) (R150, R115). -/
def execAdcZp (b : Byte) (s : State) : Result State := adc (.mem (.zp b)) s

/-- ADC IMM (69) (R150, R114). -/
def execAdcImm (w : Byte) (s : State) : Result State := adc (.imm w) s

/-- ADC ABS (6D) (R150, R118). -/
def execAdcAbs (w : Word) (s : State) : Result State := adc (.mem (.abs w)) s

/-- ADC IZY (71) (R150, R123). -/
def execAdcIzy (b : Byte) (s : State) : Result State := adc (.mem (.izy b)) s

/-- ADC ZPX (75) (R150, R116). -/
def execAdcZpx (b : Byte) (s : State) : Result State := adc (.mem (.zpx b)) s

/-- ADC ABY (79) (R150, R120). -/
def execAdcAby (w : Word) (s : State) : Result State := adc (.mem (.aby w)) s

/-- ADC ABX (7D) (R150, R119). -/
def execAdcAbx (w : Word) (s : State) : Result State := adc (.mem (.abx w)) s

/-- SBC (R152). -/
def sbc (src : Source) (s : State) : Result State := readWith State.sbc src s

/-- SBC IZX (E1) (R152, R122). -/
def execSbcIzx (b : Byte) (s : State) : Result State := sbc (.mem (.izx b)) s

/-- SBC ZP (E5) (R152, R115). -/
def execSbcZp (b : Byte) (s : State) : Result State := sbc (.mem (.zp b)) s

/-- SBC IMM (E9) (R152, R114). -/
def execSbcImm (w : Byte) (s : State) : Result State := sbc (.imm w) s

/-- SBC ABS (ED) (R152, R118). -/
def execSbcAbs (w : Word) (s : State) : Result State := sbc (.mem (.abs w)) s

/-- SBC IZY (F1) (R152, R123). -/
def execSbcIzy (b : Byte) (s : State) : Result State := sbc (.mem (.izy b)) s

/-- SBC ZPX (F5) (R152, R116). -/
def execSbcZpx (b : Byte) (s : State) : Result State := sbc (.mem (.zpx b)) s

/-- SBC ABY (F9) (R152, R120). -/
def execSbcAby (w : Word) (s : State) : Result State := sbc (.mem (.aby w)) s

/-- SBC ABX (FD) (R152, R119). -/
def execSbcAbx (w : Word) (s : State) : Result State := sbc (.mem (.abx w)) s

/-- CMP (R154). -/
def cmp (src : Source) (s : State) : Result State := readWith (fun w s => s.compare s.a w) src s

/-- CMP IZX (C1) (R154, R122). -/
def execCmpIzx (b : Byte) (s : State) : Result State := cmp (.mem (.izx b)) s

/-- CMP ZP (C5) (R154, R115). -/
def execCmpZp (b : Byte) (s : State) : Result State := cmp (.mem (.zp b)) s

/-- CMP IMM (C9) (R154, R114). -/
def execCmpImm (w : Byte) (s : State) : Result State := cmp (.imm w) s

/-- CMP ABS (CD) (R154, R118). -/
def execCmpAbs (w : Word) (s : State) : Result State := cmp (.mem (.abs w)) s

/-- CMP IZY (D1) (R154, R123). -/
def execCmpIzy (b : Byte) (s : State) : Result State := cmp (.mem (.izy b)) s

/-- CMP ZPX (D5) (R154, R116). -/
def execCmpZpx (b : Byte) (s : State) : Result State := cmp (.mem (.zpx b)) s

/-- CMP ABY (D9) (R154, R120). -/
def execCmpAby (w : Word) (s : State) : Result State := cmp (.mem (.aby w)) s

/-- CMP ABX (DD) (R154, R119). -/
def execCmpAbx (w : Word) (s : State) : Result State := cmp (.mem (.abx w)) s

/-- CPX (R155). -/
def cpx (src : Source) (s : State) : Result State := readWith (fun w s => s.compare s.x w) src s

/-- CPX IMM (E0) (R155, R114). -/
def execCpxImm (w : Byte) (s : State) : Result State := cpx (.imm w) s

/-- CPX ZP (E4) (R155, R115). -/
def execCpxZp (b : Byte) (s : State) : Result State := cpx (.mem (.zp b)) s

/-- CPX ABS (EC) (R155, R118). -/
def execCpxAbs (w : Word) (s : State) : Result State := cpx (.mem (.abs w)) s

/-- CPY (R156). -/
def cpy (src : Source) (s : State) : Result State := readWith (fun w s => s.compare s.y w) src s

/-- CPY IMM (C0) (R156, R114). -/
def execCpyImm (w : Byte) (s : State) : Result State := cpy (.imm w) s

/-- CPY ZP (C4) (R156, R115). -/
def execCpyZp (b : Byte) (s : State) : Result State := cpy (.mem (.zp b)) s

/-- CPY ABS (CC) (R156, R118). -/
def execCpyAbs (w : Word) (s : State) : Result State := cpy (.mem (.abs w)) s

/-- INC (R157). -/
def inc (m : AddrMode) (s : State) : Result State := modifyOperand m incOf s

/-- INC ZP (E6) (R157, R115). -/
def execIncZp (b : Byte) (s : State) : Result State := inc (.zp b) s

/-- INC ABS (EE) (R157, R118). -/
def execIncAbs (w : Word) (s : State) : Result State := inc (.abs w) s

/-- INC ZPX (F6) (R157, R116). -/
def execIncZpx (b : Byte) (s : State) : Result State := inc (.zpx b) s

/-- INC ABX (FE) (R157, R119). -/
def execIncAbx (w : Word) (s : State) : Result State := inc (.abx w) s

/-- DEC (R158). -/
def dec (m : AddrMode) (s : State) : Result State := modifyOperand m decOfByte s

/-- DEC ZP (C6) (R158, R115). -/
def execDecZp (b : Byte) (s : State) : Result State := dec (.zp b) s

/-- DEC ABS (CE) (R158, R118). -/
def execDecAbs (w : Word) (s : State) : Result State := dec (.abs w) s

/-- DEC ZPX (D6) (R158, R116). -/
def execDecZpx (b : Byte) (s : State) : Result State := dec (.zpx b) s

/-- DEC ABX (DE) (R158, R119). -/
def execDecAbx (w : Word) (s : State) : Result State := dec (.abx w) s

/-- INX IMP (E8): X <- X + 1 modulo 256 (R159). -/
def execInxImp (s : State) : Result State := .next ((s.setX (s.x + 1)).setNZ (s.x + 1))

/-- INY IMP (C8): Y <- Y + 1 modulo 256 (R160). -/
def execInyImp (s : State) : Result State := .next ((s.setY (s.y + 1)).setNZ (s.y + 1))

/-- DEX IMP (CA): X <- X - 1 modulo 256 (R161). -/
def execDexImp (s : State) : Result State := .next ((s.setX (s.x - 1)).setNZ (s.x - 1))

/-- DEY IMP (88): Y <- Y - 1 modulo 256 (R162). -/
def execDeyImp (s : State) : Result State := .next ((s.setY (s.y - 1)).setNZ (s.y - 1))

end Sys2Proof.Machine
end

