-- ==== Sys2Proof/Machine/Control.lean ====
section
/-! DEFINITION. Branches, jumps, subroutines, BRK and RTI (spec 46_control_flow.md). -/

namespace Sys2Proof.Machine

/-- The target of a branch: relative to the next instruction, where PC is (R124, R210). -/
def branchTarget (next : Word) (d : Byte) : Word := next + sext16 d

/-- A branch (R210): taken, it costs one cycle, and one more when the target is on another page than the next
instruction. -/
def branch (taken : Bool) (d : Byte) (s : State) : Result State :=
  if taken then
    .next ((pagePenalty s.pc (branchTarget s.pc d) (s.tick 1)).setPC (branchTarget s.pc d))
  else .next s

/-- JMP (R219): PC is the resolved address; nothing is read there. -/
def jump (m : AddrMode) (s : State) : Result State :=
  bindVal (resolve m s) fun ea s => .next (s.setPC ea)

/-- JSR (R220): the address of its own last byte is pushed, high byte first. -/
def call (target : Word) (s : State) : Result State :=
  seq (push16 (s.pc - 1) s) fun s => .next (s.setPC target)

/-- BCC REL (90) (R211, R124, R210): taken if C = 0. -/
def execBccRel (d : Byte) (s : State) : Result State := branch (!s.c) d s

/-- BCS REL (B0) (R212, R124, R210): taken if C = 1. -/
def execBcsRel (d : Byte) (s : State) : Result State := branch s.c d s

/-- BEQ REL (F0) (R213, R124, R210): taken if Z = 1. -/
def execBeqRel (d : Byte) (s : State) : Result State := branch s.z d s

/-- BNE REL (D0) (R214, R124, R210): taken if Z = 0. -/
def execBneRel (d : Byte) (s : State) : Result State := branch (!s.z) d s

/-- BMI REL (30) (R215, R124, R210): taken if N = 1. -/
def execBmiRel (d : Byte) (s : State) : Result State := branch s.n d s

/-- BPL REL (10) (R216, R124, R210): taken if N = 0. -/
def execBplRel (d : Byte) (s : State) : Result State := branch (!s.n) d s

/-- BVC REL (50) (R217, R124, R210): taken if V = 0. -/
def execBvcRel (d : Byte) (s : State) : Result State := branch (!s.v) d s

/-- BVS REL (70) (R218, R124, R210): taken if V = 1. -/
def execBvsRel (d : Byte) (s : State) : Result State := branch s.v d s

/-- JMP ABS (4C) (R219, R118). -/
def execJmpAbs (w : Word) (s : State) : Result State := jump (.abs w) s

/-- JMP IND (6C) (R219, R121). -/
def execJmpInd (w : Word) (s : State) : Result State := jump (.ind w) s

/-- JSR ABS (20) (R220, R118). -/
def execJsrAbs (w : Word) (s : State) : Result State := call w s

/-- RTS IMP (60): PC <- pulled word + 1 (R221). -/
def execRtsImp (s : State) : Result State := bindVal (pull16 s) fun w s => .next (s.setPC (w + 1))

/-- BRK IMP (00): past the pad byte, then trap entry with B forced to 1 (R222, R82). -/
def execBrkImp (s : State) : Result State := trapEntry irqVector true (s.setPC (s.pc + 1))

/-- RTI IMP (40): the flags, then PC, from the stack (R223). -/
def execRtiImp (s : State) : Result State := trapReturn s

end Sys2Proof.Machine
end

