-- ==== Sys2Proof/Machine/LoadStore.lean ====
section
/-! DEFINITION. Loads, stores and register transfers (spec 42_load_store_transfer.md). One definition for each row. -/

namespace Sys2Proof.Machine

/-- LDA (R130): A <- M, N and Z from it. -/
def lda (src : Source) (s : State) : Result State :=
  readWith (fun w s => (s.setA w).setNZ w) src s

/-- LDA IZX (A1) (R130, R122). -/
def execLdaIzx (b : Byte) (s : State) : Result State := lda (.mem (.izx b)) s

/-- LDA ZP (A5) (R130, R115). -/
def execLdaZp (b : Byte) (s : State) : Result State := lda (.mem (.zp b)) s

/-- LDA IMM (A9) (R130, R114). -/
def execLdaImm (w : Byte) (s : State) : Result State := lda (.imm w) s

/-- LDA ABS (AD) (R130, R118). -/
def execLdaAbs (w : Word) (s : State) : Result State := lda (.mem (.abs w)) s

/-- LDA IZY (B1) (R130, R123). -/
def execLdaIzy (b : Byte) (s : State) : Result State := lda (.mem (.izy b)) s

/-- LDA ZPX (B5) (R130, R116). -/
def execLdaZpx (b : Byte) (s : State) : Result State := lda (.mem (.zpx b)) s

/-- LDA ABY (B9) (R130, R120). -/
def execLdaAby (w : Word) (s : State) : Result State := lda (.mem (.aby w)) s

/-- LDA ABX (BD) (R130, R119). -/
def execLdaAbx (w : Word) (s : State) : Result State := lda (.mem (.abx w)) s

/-- LDX (R131): X <- M, N and Z from it. -/
def ldx (src : Source) (s : State) : Result State :=
  readWith (fun w s => (s.setX w).setNZ w) src s

/-- LDX IMM (A2) (R131, R114). -/
def execLdxImm (w : Byte) (s : State) : Result State := ldx (.imm w) s

/-- LDX ZP (A6) (R131, R115). -/
def execLdxZp (b : Byte) (s : State) : Result State := ldx (.mem (.zp b)) s

/-- LDX ABS (AE) (R131, R118). -/
def execLdxAbs (w : Word) (s : State) : Result State := ldx (.mem (.abs w)) s

/-- LDX ZPY (B6) (R131, R117). -/
def execLdxZpy (b : Byte) (s : State) : Result State := ldx (.mem (.zpy b)) s

/-- LDX ABY (BE) (R131, R120). -/
def execLdxAby (w : Word) (s : State) : Result State := ldx (.mem (.aby w)) s

/-- LDY (R132): Y <- M, N and Z from it. -/
def ldy (src : Source) (s : State) : Result State :=
  readWith (fun w s => (s.setY w).setNZ w) src s

/-- LDY IMM (A0) (R132, R114). -/
def execLdyImm (w : Byte) (s : State) : Result State := ldy (.imm w) s

/-- LDY ZP (A4) (R132, R115). -/
def execLdyZp (b : Byte) (s : State) : Result State := ldy (.mem (.zp b)) s

/-- LDY ABS (AC) (R132, R118). -/
def execLdyAbs (w : Word) (s : State) : Result State := ldy (.mem (.abs w)) s

/-- LDY ZPX (B4) (R132, R116). -/
def execLdyZpx (b : Byte) (s : State) : Result State := ldy (.mem (.zpx b)) s

/-- LDY ABX (BC) (R132, R119). -/
def execLdyAbx (w : Word) (s : State) : Result State := ldy (.mem (.abx w)) s

/-- STA (R133): write A, no flag. -/
def sta (m : AddrMode) (s : State) : Result State := storeOperand m s.a s

/-- STA IZX (81) (R133, R122). -/
def execStaIzx (b : Byte) (s : State) : Result State := sta (.izx b) s

/-- STA ZP (85) (R133, R115). -/
def execStaZp (b : Byte) (s : State) : Result State := sta (.zp b) s

/-- STA ABS (8D) (R133, R118). -/
def execStaAbs (w : Word) (s : State) : Result State := sta (.abs w) s

/-- STA IZY (91) (R133, R123). -/
def execStaIzy (b : Byte) (s : State) : Result State := sta (.izy b) s

/-- STA ZPX (95) (R133, R116). -/
def execStaZpx (b : Byte) (s : State) : Result State := sta (.zpx b) s

/-- STA ABY (99) (R133, R120). -/
def execStaAby (w : Word) (s : State) : Result State := sta (.aby w) s

/-- STA ABX (9D) (R133, R119). -/
def execStaAbx (w : Word) (s : State) : Result State := sta (.abx w) s

/-- STX (R134): write X, no flag. -/
def stx (m : AddrMode) (s : State) : Result State := storeOperand m s.x s

/-- STX ZP (86) (R134, R115). -/
def execStxZp (b : Byte) (s : State) : Result State := stx (.zp b) s

/-- STX ABS (8E) (R134, R118). -/
def execStxAbs (w : Word) (s : State) : Result State := stx (.abs w) s

/-- STX ZPY (96) (R134, R117). -/
def execStxZpy (b : Byte) (s : State) : Result State := stx (.zpy b) s

/-- STY (R135): write Y, no flag. -/
def sty (m : AddrMode) (s : State) : Result State := storeOperand m s.y s

/-- STY ZP (84) (R135, R115). -/
def execStyZp (b : Byte) (s : State) : Result State := sty (.zp b) s

/-- STY ABS (8C) (R135, R118). -/
def execStyAbs (w : Word) (s : State) : Result State := sty (.abs w) s

/-- STY ZPX (94) (R135, R116). -/
def execStyZpx (b : Byte) (s : State) : Result State := sty (.zpx b) s

/-- TAX IMP (AA): X <- A, N and Z from it (R136). -/
def execTaxImp (s : State) : Result State := .next ((s.setX s.a).setNZ s.a)

/-- TAY IMP (A8): Y <- A, N and Z from it (R137). -/
def execTayImp (s : State) : Result State := .next ((s.setY s.a).setNZ s.a)

/-- TSX IMP (BA): X <- S, N and Z from it (R138). -/
def execTsxImp (s : State) : Result State := .next ((s.setX s.sp).setNZ s.sp)

/-- TXA IMP (8A): A <- X, N and Z from it (R139). -/
def execTxaImp (s : State) : Result State := .next ((s.setA s.x).setNZ s.x)

/-- TXS IMP (9A): S <- X, no flag (R140). -/
def execTxsImp (s : State) : Result State := .next (s.setSP s.x)

/-- TYA IMP (98): A <- Y, N and Z from it (R141). -/
def execTyaImp (s : State) : Result State := .next ((s.setA s.y).setNZ s.y)

end Sys2Proof.Machine
end

