-- ==== Sys2Proof/Machine/Logical.lean ====
section
/-! DEFINITION. Logical operations, bit test, shifts and rotates (spec 44_logical_shift.md). -/

namespace Sys2Proof.Machine

/-- AND (R170). -/
def andA (src : Source) (s : State) : Result State :=
  readWith (fun w s => (s.setA (s.a &&& w)).setNZ (s.a &&& w)) src s

/-- AND IZX (21) (R170, R122). -/
def execAndIzx (b : Byte) (s : State) : Result State := andA (.mem (.izx b)) s

/-- AND ZP (25) (R170, R115). -/
def execAndZp (b : Byte) (s : State) : Result State := andA (.mem (.zp b)) s

/-- AND IMM (29) (R170, R114). -/
def execAndImm (w : Byte) (s : State) : Result State := andA (.imm w) s

/-- AND ABS (2D) (R170, R118). -/
def execAndAbs (w : Word) (s : State) : Result State := andA (.mem (.abs w)) s

/-- AND IZY (31) (R170, R123). -/
def execAndIzy (b : Byte) (s : State) : Result State := andA (.mem (.izy b)) s

/-- AND ZPX (35) (R170, R116). -/
def execAndZpx (b : Byte) (s : State) : Result State := andA (.mem (.zpx b)) s

/-- AND ABY (39) (R170, R120). -/
def execAndAby (w : Word) (s : State) : Result State := andA (.mem (.aby w)) s

/-- AND ABX (3D) (R170, R119). -/
def execAndAbx (w : Word) (s : State) : Result State := andA (.mem (.abx w)) s

/-- ORA (R171). -/
def oraA (src : Source) (s : State) : Result State :=
  readWith (fun w s => (s.setA (s.a ||| w)).setNZ (s.a ||| w)) src s

/-- ORA IZX (01) (R171, R122). -/
def execOraIzx (b : Byte) (s : State) : Result State := oraA (.mem (.izx b)) s

/-- ORA ZP (05) (R171, R115). -/
def execOraZp (b : Byte) (s : State) : Result State := oraA (.mem (.zp b)) s

/-- ORA IMM (09) (R171, R114). -/
def execOraImm (w : Byte) (s : State) : Result State := oraA (.imm w) s

/-- ORA ABS (0D) (R171, R118). -/
def execOraAbs (w : Word) (s : State) : Result State := oraA (.mem (.abs w)) s

/-- ORA IZY (11) (R171, R123). -/
def execOraIzy (b : Byte) (s : State) : Result State := oraA (.mem (.izy b)) s

/-- ORA ZPX (15) (R171, R116). -/
def execOraZpx (b : Byte) (s : State) : Result State := oraA (.mem (.zpx b)) s

/-- ORA ABY (19) (R171, R120). -/
def execOraAby (w : Word) (s : State) : Result State := oraA (.mem (.aby w)) s

/-- ORA ABX (1D) (R171, R119). -/
def execOraAbx (w : Word) (s : State) : Result State := oraA (.mem (.abx w)) s

/-- EOR (R172). -/
def eorA (src : Source) (s : State) : Result State :=
  readWith (fun w s => (s.setA (s.a ^^^ w)).setNZ (s.a ^^^ w)) src s

/-- EOR IZX (41) (R172, R122). -/
def execEorIzx (b : Byte) (s : State) : Result State := eorA (.mem (.izx b)) s

/-- EOR ZP (45) (R172, R115). -/
def execEorZp (b : Byte) (s : State) : Result State := eorA (.mem (.zp b)) s

/-- EOR IMM (49) (R172, R114). -/
def execEorImm (w : Byte) (s : State) : Result State := eorA (.imm w) s

/-- EOR ABS (4D) (R172, R118). -/
def execEorAbs (w : Word) (s : State) : Result State := eorA (.mem (.abs w)) s

/-- EOR IZY (51) (R172, R123). -/
def execEorIzy (b : Byte) (s : State) : Result State := eorA (.mem (.izy b)) s

/-- EOR ZPX (55) (R172, R116). -/
def execEorZpx (b : Byte) (s : State) : Result State := eorA (.mem (.zpx b)) s

/-- EOR ABY (59) (R172, R120). -/
def execEorAby (w : Word) (s : State) : Result State := eorA (.mem (.aby w)) s

/-- EOR ABX (5D) (R172, R119). -/
def execEorAbx (w : Word) (s : State) : Result State := eorA (.mem (.abx w)) s

/-- BIT (R173). -/
def bit (src : Source) (s : State) : Result State := readWith State.bitTest src s

/-- BIT ZP (24) (R173, R115). -/
def execBitZp (b : Byte) (s : State) : Result State := bit (.mem (.zp b)) s

/-- BIT ABS (2C) (R173, R118). -/
def execBitAbs (w : Word) (s : State) : Result State := bit (.mem (.abs w)) s

/-- ASL on memory (R174, R178). -/
def asl (m : AddrMode) (s : State) : Result State := modifyOperand m aslOf s

/-- ASL ZP (06) (R174, R115). -/
def execAslZp (b : Byte) (s : State) : Result State := asl (.zp b) s

/-- ASL ACC (0A) (R174, R113, R178). -/
def execAslAcc (s : State) : Result State := modifyAccumulator aslOf s

/-- ASL ABS (0E) (R174, R118). -/
def execAslAbs (w : Word) (s : State) : Result State := asl (.abs w) s

/-- ASL ZPX (16) (R174, R116). -/
def execAslZpx (b : Byte) (s : State) : Result State := asl (.zpx b) s

/-- ASL ABX (1E) (R174, R119). -/
def execAslAbx (w : Word) (s : State) : Result State := asl (.abx w) s

/-- LSR on memory (R175, R178). -/
def lsr (m : AddrMode) (s : State) : Result State := modifyOperand m lsrOf s

/-- LSR ZP (46) (R175, R115). -/
def execLsrZp (b : Byte) (s : State) : Result State := lsr (.zp b) s

/-- LSR ACC (4A) (R175, R113, R178). -/
def execLsrAcc (s : State) : Result State := modifyAccumulator lsrOf s

/-- LSR ABS (4E) (R175, R118). -/
def execLsrAbs (w : Word) (s : State) : Result State := lsr (.abs w) s

/-- LSR ZPX (56) (R175, R116). -/
def execLsrZpx (b : Byte) (s : State) : Result State := lsr (.zpx b) s

/-- LSR ABX (5E) (R175, R119). -/
def execLsrAbx (w : Word) (s : State) : Result State := lsr (.abx w) s

/-- ROL on memory (R176, R178). -/
def rol (m : AddrMode) (s : State) : Result State := modifyOperand m rolOf s

/-- ROL ZP (26) (R176, R115). -/
def execRolZp (b : Byte) (s : State) : Result State := rol (.zp b) s

/-- ROL ACC (2A) (R176, R113, R178). -/
def execRolAcc (s : State) : Result State := modifyAccumulator rolOf s

/-- ROL ABS (2E) (R176, R118). -/
def execRolAbs (w : Word) (s : State) : Result State := rol (.abs w) s

/-- ROL ZPX (36) (R176, R116). -/
def execRolZpx (b : Byte) (s : State) : Result State := rol (.zpx b) s

/-- ROL ABX (3E) (R176, R119). -/
def execRolAbx (w : Word) (s : State) : Result State := rol (.abx w) s

/-- ROR on memory (R177, R178). -/
def ror (m : AddrMode) (s : State) : Result State := modifyOperand m rorOf s

/-- ROR ZP (66) (R177, R115). -/
def execRorZp (b : Byte) (s : State) : Result State := ror (.zp b) s

/-- ROR ACC (6A) (R177, R113, R178). -/
def execRorAcc (s : State) : Result State := modifyAccumulator rorOf s

/-- ROR ABS (6E) (R177, R118). -/
def execRorAbs (w : Word) (s : State) : Result State := ror (.abs w) s

/-- ROR ZPX (76) (R177, R116). -/
def execRorZpx (b : Byte) (s : State) : Result State := ror (.zpx b) s

/-- ROR ABX (7E) (R177, R119). -/
def execRorAbx (w : Word) (s : State) : Result State := ror (.abx w) s

end Sys2Proof.Machine
end

