-- ==== Sys2Proof/Machine/StackFlag.lean ====
section
/-! DEFINITION. Stack, flag and no-operation instructions (spec 45_stack_flag_nop.md). -/

namespace Sys2Proof.Machine

/-- PHA IMP (48): push A (R190). -/
def execPhaImp (s : State) : Result State := push s.a s

/-- PHP IMP (08): push `P()`, bit 4 the stored B (R191). -/
def execPhpImp (s : State) : Result State := push s.packed s

/-- PLA IMP (68): A <- pulled byte, N and Z from it (R192). -/
def execPlaImp (s : State) : Result State := bindVal (pull s) fun w s => .next ((s.setA w).setNZ w)

/-- PLP IMP (28): all seven flags from the pulled byte (R193). -/
def execPlpImp (s : State) : Result State := bindVal (pull s) fun w s => .next (s.unpack w)

/-- CLC IMP (18): C <- 0 (R194). -/
def execClcImp (s : State) : Result State := .next (s.setC false)

/-- SEC IMP (38): C <- 1 (R195). -/
def execSecImp (s : State) : Result State := .next (s.setC true)

/-- CLI IMP (58): I <- 0, seen by the next poll (R196). -/
def execCliImp (s : State) : Result State := .next (s.setI false)

/-- SEI IMP (78): I <- 1, seen by the next poll (R197). -/
def execSeiImp (s : State) : Result State := .next (s.setI true)

/-- CLD IMP (D8): D <- 0 (R198). -/
def execCldImp (s : State) : Result State := .next (s.setD false)

/-- SED IMP (F8): D <- 1 (R199). -/
def execSedImp (s : State) : Result State := .next (s.setD true)

/-- CLV IMP (B8): V <- 0 (R200). -/
def execClvImp (s : State) : Result State := .next (s.setV false)

/-- NOP IMP (EA): nothing (R201). -/
def execNopImp (s : State) : Result State := .next s

end Sys2Proof.Machine
end

