-- ==== Sys2Proof/Machine/Unassigned.lean ====
section
/-! DEFINITION. The 105 unassigned opcodes and the policy (spec 40_step_and_dispatch.md R98 to R101). -/

namespace Sys2Proof.Machine

/-- `UnknownOpcode(opaddr, opcode)` (R98), after the opcode fetch: PC is one past the byte at `opaddr`. -/
def unknownOpcode (opcode : Byte) (s : State) : Result State :=
  match s.policy with
  | .throwException => raiseInvalidOpcode (s.pc - 1) opcode s
  | .treatAsNop => .next (s.tick 1)
  | .emulateHardwareBehavior => .refused (.emulateHardwareBehavior (s.pc - 1) opcode s.markRefusal)

/-- Opcode 0x02, unassigned (R77, R98). -/
def execUnassigned02 (s : State) : Result State := unknownOpcode 0x02 s

/-- Opcode 0x03, unassigned (R77, R98). -/
def execUnassigned03 (s : State) : Result State := unknownOpcode 0x03 s

/-- Opcode 0x04, unassigned (R77, R98). -/
def execUnassigned04 (s : State) : Result State := unknownOpcode 0x04 s

/-- Opcode 0x07, unassigned (R77, R98). -/
def execUnassigned07 (s : State) : Result State := unknownOpcode 0x07 s

/-- Opcode 0x0B, unassigned (R77, R98). -/
def execUnassigned0B (s : State) : Result State := unknownOpcode 0x0B s

/-- Opcode 0x0C, unassigned (R77, R98). -/
def execUnassigned0C (s : State) : Result State := unknownOpcode 0x0C s

/-- Opcode 0x0F, unassigned (R77, R98). -/
def execUnassigned0F (s : State) : Result State := unknownOpcode 0x0F s

/-- Opcode 0x12, unassigned (R77, R98). -/
def execUnassigned12 (s : State) : Result State := unknownOpcode 0x12 s

/-- Opcode 0x13, unassigned (R77, R98). -/
def execUnassigned13 (s : State) : Result State := unknownOpcode 0x13 s

/-- Opcode 0x14, unassigned (R77, R98). -/
def execUnassigned14 (s : State) : Result State := unknownOpcode 0x14 s

/-- Opcode 0x17, unassigned (R77, R98). -/
def execUnassigned17 (s : State) : Result State := unknownOpcode 0x17 s

/-- Opcode 0x1A, unassigned (R77, R98). -/
def execUnassigned1A (s : State) : Result State := unknownOpcode 0x1A s

/-- Opcode 0x1B, unassigned (R77, R98). -/
def execUnassigned1B (s : State) : Result State := unknownOpcode 0x1B s

/-- Opcode 0x1C, unassigned (R77, R98). -/
def execUnassigned1C (s : State) : Result State := unknownOpcode 0x1C s

/-- Opcode 0x1F, unassigned (R77, R98). -/
def execUnassigned1F (s : State) : Result State := unknownOpcode 0x1F s

/-- Opcode 0x22, unassigned (R77, R98). -/
def execUnassigned22 (s : State) : Result State := unknownOpcode 0x22 s

/-- Opcode 0x23, unassigned (R77, R98). -/
def execUnassigned23 (s : State) : Result State := unknownOpcode 0x23 s

/-- Opcode 0x27, unassigned (R77, R98). -/
def execUnassigned27 (s : State) : Result State := unknownOpcode 0x27 s

/-- Opcode 0x2B, unassigned (R77, R98). -/
def execUnassigned2B (s : State) : Result State := unknownOpcode 0x2B s

/-- Opcode 0x2F, unassigned (R77, R98). -/
def execUnassigned2F (s : State) : Result State := unknownOpcode 0x2F s

/-- Opcode 0x32, unassigned (R77, R98). -/
def execUnassigned32 (s : State) : Result State := unknownOpcode 0x32 s

/-- Opcode 0x33, unassigned (R77, R98). -/
def execUnassigned33 (s : State) : Result State := unknownOpcode 0x33 s

/-- Opcode 0x34, unassigned (R77, R98). -/
def execUnassigned34 (s : State) : Result State := unknownOpcode 0x34 s

/-- Opcode 0x37, unassigned (R77, R98). -/
def execUnassigned37 (s : State) : Result State := unknownOpcode 0x37 s

/-- Opcode 0x3A, unassigned (R77, R98). -/
def execUnassigned3A (s : State) : Result State := unknownOpcode 0x3A s

/-- Opcode 0x3B, unassigned (R77, R98). -/
def execUnassigned3B (s : State) : Result State := unknownOpcode 0x3B s

/-- Opcode 0x3C, unassigned (R77, R98). -/
def execUnassigned3C (s : State) : Result State := unknownOpcode 0x3C s

/-- Opcode 0x3F, unassigned (R77, R98). -/
def execUnassigned3F (s : State) : Result State := unknownOpcode 0x3F s

/-- Opcode 0x42, unassigned (R77, R98). -/
def execUnassigned42 (s : State) : Result State := unknownOpcode 0x42 s

/-- Opcode 0x43, unassigned (R77, R98). -/
def execUnassigned43 (s : State) : Result State := unknownOpcode 0x43 s

/-- Opcode 0x44, unassigned (R77, R98). -/
def execUnassigned44 (s : State) : Result State := unknownOpcode 0x44 s

/-- Opcode 0x47, unassigned (R77, R98). -/
def execUnassigned47 (s : State) : Result State := unknownOpcode 0x47 s

/-- Opcode 0x4B, unassigned (R77, R98). -/
def execUnassigned4B (s : State) : Result State := unknownOpcode 0x4B s

/-- Opcode 0x4F, unassigned (R77, R98). -/
def execUnassigned4F (s : State) : Result State := unknownOpcode 0x4F s

/-- Opcode 0x52, unassigned (R77, R98). -/
def execUnassigned52 (s : State) : Result State := unknownOpcode 0x52 s

/-- Opcode 0x53, unassigned (R77, R98). -/
def execUnassigned53 (s : State) : Result State := unknownOpcode 0x53 s

/-- Opcode 0x54, unassigned (R77, R98). -/
def execUnassigned54 (s : State) : Result State := unknownOpcode 0x54 s

/-- Opcode 0x57, unassigned (R77, R98). -/
def execUnassigned57 (s : State) : Result State := unknownOpcode 0x57 s

/-- Opcode 0x5A, unassigned (R77, R98). -/
def execUnassigned5A (s : State) : Result State := unknownOpcode 0x5A s

/-- Opcode 0x5B, unassigned (R77, R98). -/
def execUnassigned5B (s : State) : Result State := unknownOpcode 0x5B s

/-- Opcode 0x5C, unassigned (R77, R98). -/
def execUnassigned5C (s : State) : Result State := unknownOpcode 0x5C s

/-- Opcode 0x5F, unassigned (R77, R98). -/
def execUnassigned5F (s : State) : Result State := unknownOpcode 0x5F s

/-- Opcode 0x62, unassigned (R77, R98). -/
def execUnassigned62 (s : State) : Result State := unknownOpcode 0x62 s

/-- Opcode 0x63, unassigned (R77, R98). -/
def execUnassigned63 (s : State) : Result State := unknownOpcode 0x63 s

/-- Opcode 0x64, unassigned (R77, R98). -/
def execUnassigned64 (s : State) : Result State := unknownOpcode 0x64 s

/-- Opcode 0x67, unassigned (R77, R98). -/
def execUnassigned67 (s : State) : Result State := unknownOpcode 0x67 s

/-- Opcode 0x6B, unassigned (R77, R98). -/
def execUnassigned6B (s : State) : Result State := unknownOpcode 0x6B s

/-- Opcode 0x6F, unassigned (R77, R98). -/
def execUnassigned6F (s : State) : Result State := unknownOpcode 0x6F s

/-- Opcode 0x72, unassigned (R77, R98). -/
def execUnassigned72 (s : State) : Result State := unknownOpcode 0x72 s

/-- Opcode 0x73, unassigned (R77, R98). -/
def execUnassigned73 (s : State) : Result State := unknownOpcode 0x73 s

/-- Opcode 0x74, unassigned (R77, R98). -/
def execUnassigned74 (s : State) : Result State := unknownOpcode 0x74 s

/-- Opcode 0x77, unassigned (R77, R98). -/
def execUnassigned77 (s : State) : Result State := unknownOpcode 0x77 s

/-- Opcode 0x7A, unassigned (R77, R98). -/
def execUnassigned7A (s : State) : Result State := unknownOpcode 0x7A s

/-- Opcode 0x7B, unassigned (R77, R98). -/
def execUnassigned7B (s : State) : Result State := unknownOpcode 0x7B s

/-- Opcode 0x7C, unassigned (R77, R98). -/
def execUnassigned7C (s : State) : Result State := unknownOpcode 0x7C s

/-- Opcode 0x7F, unassigned (R77, R98). -/
def execUnassigned7F (s : State) : Result State := unknownOpcode 0x7F s

/-- Opcode 0x80, unassigned (R77, R98). -/
def execUnassigned80 (s : State) : Result State := unknownOpcode 0x80 s

/-- Opcode 0x82, unassigned (R77, R98). -/
def execUnassigned82 (s : State) : Result State := unknownOpcode 0x82 s

/-- Opcode 0x83, unassigned (R77, R98). -/
def execUnassigned83 (s : State) : Result State := unknownOpcode 0x83 s

/-- Opcode 0x87, unassigned (R77, R98). -/
def execUnassigned87 (s : State) : Result State := unknownOpcode 0x87 s

/-- Opcode 0x89, unassigned (R77, R98). -/
def execUnassigned89 (s : State) : Result State := unknownOpcode 0x89 s

/-- Opcode 0x8B, unassigned (R77, R98). -/
def execUnassigned8B (s : State) : Result State := unknownOpcode 0x8B s

/-- Opcode 0x8F, unassigned (R77, R98). -/
def execUnassigned8F (s : State) : Result State := unknownOpcode 0x8F s

/-- Opcode 0x92, unassigned (R77, R98). -/
def execUnassigned92 (s : State) : Result State := unknownOpcode 0x92 s

/-- Opcode 0x93, unassigned (R77, R98). -/
def execUnassigned93 (s : State) : Result State := unknownOpcode 0x93 s

/-- Opcode 0x97, unassigned (R77, R98). -/
def execUnassigned97 (s : State) : Result State := unknownOpcode 0x97 s

/-- Opcode 0x9B, unassigned (R77, R98). -/
def execUnassigned9B (s : State) : Result State := unknownOpcode 0x9B s

/-- Opcode 0x9C, unassigned (R77, R98). -/
def execUnassigned9C (s : State) : Result State := unknownOpcode 0x9C s

/-- Opcode 0x9E, unassigned (R77, R98). -/
def execUnassigned9E (s : State) : Result State := unknownOpcode 0x9E s

/-- Opcode 0x9F, unassigned (R77, R98). -/
def execUnassigned9F (s : State) : Result State := unknownOpcode 0x9F s

/-- Opcode 0xA3, unassigned (R77, R98). -/
def execUnassignedA3 (s : State) : Result State := unknownOpcode 0xA3 s

/-- Opcode 0xA7, unassigned (R77, R98). -/
def execUnassignedA7 (s : State) : Result State := unknownOpcode 0xA7 s

/-- Opcode 0xAB, unassigned (R77, R98). -/
def execUnassignedAB (s : State) : Result State := unknownOpcode 0xAB s

/-- Opcode 0xAF, unassigned (R77, R98). -/
def execUnassignedAF (s : State) : Result State := unknownOpcode 0xAF s

/-- Opcode 0xB2, unassigned (R77, R98). -/
def execUnassignedB2 (s : State) : Result State := unknownOpcode 0xB2 s

/-- Opcode 0xB3, unassigned (R77, R98). -/
def execUnassignedB3 (s : State) : Result State := unknownOpcode 0xB3 s

/-- Opcode 0xB7, unassigned (R77, R98). -/
def execUnassignedB7 (s : State) : Result State := unknownOpcode 0xB7 s

/-- Opcode 0xBB, unassigned (R77, R98). -/
def execUnassignedBB (s : State) : Result State := unknownOpcode 0xBB s

/-- Opcode 0xBF, unassigned (R77, R98). -/
def execUnassignedBF (s : State) : Result State := unknownOpcode 0xBF s

/-- Opcode 0xC2, unassigned (R77, R98). -/
def execUnassignedC2 (s : State) : Result State := unknownOpcode 0xC2 s

/-- Opcode 0xC3, unassigned (R77, R98). -/
def execUnassignedC3 (s : State) : Result State := unknownOpcode 0xC3 s

/-- Opcode 0xC7, unassigned (R77, R98). -/
def execUnassignedC7 (s : State) : Result State := unknownOpcode 0xC7 s

/-- Opcode 0xCB, unassigned (R77, R98). -/
def execUnassignedCB (s : State) : Result State := unknownOpcode 0xCB s

/-- Opcode 0xCF, unassigned (R77, R98). -/
def execUnassignedCF (s : State) : Result State := unknownOpcode 0xCF s

/-- Opcode 0xD2, unassigned (R77, R98). -/
def execUnassignedD2 (s : State) : Result State := unknownOpcode 0xD2 s

/-- Opcode 0xD3, unassigned (R77, R98). -/
def execUnassignedD3 (s : State) : Result State := unknownOpcode 0xD3 s

/-- Opcode 0xD4, unassigned (R77, R98). -/
def execUnassignedD4 (s : State) : Result State := unknownOpcode 0xD4 s

/-- Opcode 0xD7, unassigned (R77, R98). -/
def execUnassignedD7 (s : State) : Result State := unknownOpcode 0xD7 s

/-- Opcode 0xDA, unassigned (R77, R98). -/
def execUnassignedDA (s : State) : Result State := unknownOpcode 0xDA s

/-- Opcode 0xDB, unassigned (R77, R98). -/
def execUnassignedDB (s : State) : Result State := unknownOpcode 0xDB s

/-- Opcode 0xDC, unassigned (R77, R98). -/
def execUnassignedDC (s : State) : Result State := unknownOpcode 0xDC s

/-- Opcode 0xDF, unassigned (R77, R98). -/
def execUnassignedDF (s : State) : Result State := unknownOpcode 0xDF s

/-- Opcode 0xE2, unassigned (R77, R98). -/
def execUnassignedE2 (s : State) : Result State := unknownOpcode 0xE2 s

/-- Opcode 0xE3, unassigned (R77, R98). -/
def execUnassignedE3 (s : State) : Result State := unknownOpcode 0xE3 s

/-- Opcode 0xE7, unassigned (R77, R98). -/
def execUnassignedE7 (s : State) : Result State := unknownOpcode 0xE7 s

/-- Opcode 0xEB, unassigned (R77, R98). -/
def execUnassignedEB (s : State) : Result State := unknownOpcode 0xEB s

/-- Opcode 0xEF, unassigned (R77, R98). -/
def execUnassignedEF (s : State) : Result State := unknownOpcode 0xEF s

/-- Opcode 0xF2, unassigned (R77, R98). -/
def execUnassignedF2 (s : State) : Result State := unknownOpcode 0xF2 s

/-- Opcode 0xF3, unassigned (R77, R98). -/
def execUnassignedF3 (s : State) : Result State := unknownOpcode 0xF3 s

/-- Opcode 0xF4, unassigned (R77, R98). -/
def execUnassignedF4 (s : State) : Result State := unknownOpcode 0xF4 s

/-- Opcode 0xF7, unassigned (R77, R98). -/
def execUnassignedF7 (s : State) : Result State := unknownOpcode 0xF7 s

/-- Opcode 0xFA, unassigned (R77, R98). -/
def execUnassignedFA (s : State) : Result State := unknownOpcode 0xFA s

/-- Opcode 0xFB, unassigned (R77, R98). -/
def execUnassignedFB (s : State) : Result State := unknownOpcode 0xFB s

/-- Opcode 0xFC, unassigned (R77, R98). -/
def execUnassignedFC (s : State) : Result State := unknownOpcode 0xFC s

/-- Opcode 0xFF, unassigned (R77, R98). -/
def execUnassignedFF (s : State) : Result State := unknownOpcode 0xFF s

end Sys2Proof.Machine
end

