-- ==== Sys2Proof/Machine/Dispatch.lean ====
section
/-! DEFINITION. Dispatch (spec 40_step_and_dispatch.md R95): one arm for each opcode, after the step has fetched the
opcode and operand bytes and charged the internal cycles. PC is past the instruction. -/

namespace Sys2Proof.Machine

def exec (i : Instr) (s : State) : Host.Outcome State Fault Refusal :=
  match i with
  | .brkImp => Sys2Proof.Machine.execBrkImp s
  | .oraIzx b => Sys2Proof.Machine.execOraIzx b s
  | .unassigned02 => Sys2Proof.Machine.execUnassigned02 s
  | .unassigned03 => Sys2Proof.Machine.execUnassigned03 s
  | .unassigned04 => Sys2Proof.Machine.execUnassigned04 s
  | .oraZp b => Sys2Proof.Machine.execOraZp b s
  | .aslZp b => Sys2Proof.Machine.execAslZp b s
  | .unassigned07 => Sys2Proof.Machine.execUnassigned07 s
  | .phpImp => Sys2Proof.Machine.execPhpImp s
  | .oraImm w => Sys2Proof.Machine.execOraImm w s
  | .aslAcc => Sys2Proof.Machine.execAslAcc s
  | .unassigned0B => Sys2Proof.Machine.execUnassigned0B s
  | .unassigned0C => Sys2Proof.Machine.execUnassigned0C s
  | .oraAbs w => Sys2Proof.Machine.execOraAbs w s
  | .aslAbs w => Sys2Proof.Machine.execAslAbs w s
  | .unassigned0F => Sys2Proof.Machine.execUnassigned0F s
  | .bplRel d => Sys2Proof.Machine.execBplRel d s
  | .oraIzy b => Sys2Proof.Machine.execOraIzy b s
  | .unassigned12 => Sys2Proof.Machine.execUnassigned12 s
  | .unassigned13 => Sys2Proof.Machine.execUnassigned13 s
  | .unassigned14 => Sys2Proof.Machine.execUnassigned14 s
  | .oraZpx b => Sys2Proof.Machine.execOraZpx b s
  | .aslZpx b => Sys2Proof.Machine.execAslZpx b s
  | .unassigned17 => Sys2Proof.Machine.execUnassigned17 s
  | .clcImp => Sys2Proof.Machine.execClcImp s
  | .oraAby w => Sys2Proof.Machine.execOraAby w s
  | .unassigned1A => Sys2Proof.Machine.execUnassigned1A s
  | .unassigned1B => Sys2Proof.Machine.execUnassigned1B s
  | .unassigned1C => Sys2Proof.Machine.execUnassigned1C s
  | .oraAbx w => Sys2Proof.Machine.execOraAbx w s
  | .aslAbx w => Sys2Proof.Machine.execAslAbx w s
  | .unassigned1F => Sys2Proof.Machine.execUnassigned1F s
  | .jsrAbs w => Sys2Proof.Machine.execJsrAbs w s
  | .andIzx b => Sys2Proof.Machine.execAndIzx b s
  | .unassigned22 => Sys2Proof.Machine.execUnassigned22 s
  | .unassigned23 => Sys2Proof.Machine.execUnassigned23 s
  | .bitZp b => Sys2Proof.Machine.execBitZp b s
  | .andZp b => Sys2Proof.Machine.execAndZp b s
  | .rolZp b => Sys2Proof.Machine.execRolZp b s
  | .unassigned27 => Sys2Proof.Machine.execUnassigned27 s
  | .plpImp => Sys2Proof.Machine.execPlpImp s
  | .andImm w => Sys2Proof.Machine.execAndImm w s
  | .rolAcc => Sys2Proof.Machine.execRolAcc s
  | .unassigned2B => Sys2Proof.Machine.execUnassigned2B s
  | .bitAbs w => Sys2Proof.Machine.execBitAbs w s
  | .andAbs w => Sys2Proof.Machine.execAndAbs w s
  | .rolAbs w => Sys2Proof.Machine.execRolAbs w s
  | .unassigned2F => Sys2Proof.Machine.execUnassigned2F s
  | .bmiRel d => Sys2Proof.Machine.execBmiRel d s
  | .andIzy b => Sys2Proof.Machine.execAndIzy b s
  | .unassigned32 => Sys2Proof.Machine.execUnassigned32 s
  | .unassigned33 => Sys2Proof.Machine.execUnassigned33 s
  | .unassigned34 => Sys2Proof.Machine.execUnassigned34 s
  | .andZpx b => Sys2Proof.Machine.execAndZpx b s
  | .rolZpx b => Sys2Proof.Machine.execRolZpx b s
  | .unassigned37 => Sys2Proof.Machine.execUnassigned37 s
  | .secImp => Sys2Proof.Machine.execSecImp s
  | .andAby w => Sys2Proof.Machine.execAndAby w s
  | .unassigned3A => Sys2Proof.Machine.execUnassigned3A s
  | .unassigned3B => Sys2Proof.Machine.execUnassigned3B s
  | .unassigned3C => Sys2Proof.Machine.execUnassigned3C s
  | .andAbx w => Sys2Proof.Machine.execAndAbx w s
  | .rolAbx w => Sys2Proof.Machine.execRolAbx w s
  | .unassigned3F => Sys2Proof.Machine.execUnassigned3F s
  | .rtiImp => Sys2Proof.Machine.execRtiImp s
  | .eorIzx b => Sys2Proof.Machine.execEorIzx b s
  | .unassigned42 => Sys2Proof.Machine.execUnassigned42 s
  | .unassigned43 => Sys2Proof.Machine.execUnassigned43 s
  | .unassigned44 => Sys2Proof.Machine.execUnassigned44 s
  | .eorZp b => Sys2Proof.Machine.execEorZp b s
  | .lsrZp b => Sys2Proof.Machine.execLsrZp b s
  | .unassigned47 => Sys2Proof.Machine.execUnassigned47 s
  | .phaImp => Sys2Proof.Machine.execPhaImp s
  | .eorImm w => Sys2Proof.Machine.execEorImm w s
  | .lsrAcc => Sys2Proof.Machine.execLsrAcc s
  | .unassigned4B => Sys2Proof.Machine.execUnassigned4B s
  | .jmpAbs w => Sys2Proof.Machine.execJmpAbs w s
  | .eorAbs w => Sys2Proof.Machine.execEorAbs w s
  | .lsrAbs w => Sys2Proof.Machine.execLsrAbs w s
  | .unassigned4F => Sys2Proof.Machine.execUnassigned4F s
  | .bvcRel d => Sys2Proof.Machine.execBvcRel d s
  | .eorIzy b => Sys2Proof.Machine.execEorIzy b s
  | .unassigned52 => Sys2Proof.Machine.execUnassigned52 s
  | .unassigned53 => Sys2Proof.Machine.execUnassigned53 s
  | .unassigned54 => Sys2Proof.Machine.execUnassigned54 s
  | .eorZpx b => Sys2Proof.Machine.execEorZpx b s
  | .lsrZpx b => Sys2Proof.Machine.execLsrZpx b s
  | .unassigned57 => Sys2Proof.Machine.execUnassigned57 s
  | .cliImp => Sys2Proof.Machine.execCliImp s
  | .eorAby w => Sys2Proof.Machine.execEorAby w s
  | .unassigned5A => Sys2Proof.Machine.execUnassigned5A s
  | .unassigned5B => Sys2Proof.Machine.execUnassigned5B s
  | .unassigned5C => Sys2Proof.Machine.execUnassigned5C s
  | .eorAbx w => Sys2Proof.Machine.execEorAbx w s
  | .lsrAbx w => Sys2Proof.Machine.execLsrAbx w s
  | .unassigned5F => Sys2Proof.Machine.execUnassigned5F s
  | .rtsImp => Sys2Proof.Machine.execRtsImp s
  | .adcIzx b => Sys2Proof.Machine.execAdcIzx b s
  | .unassigned62 => Sys2Proof.Machine.execUnassigned62 s
  | .unassigned63 => Sys2Proof.Machine.execUnassigned63 s
  | .unassigned64 => Sys2Proof.Machine.execUnassigned64 s
  | .adcZp b => Sys2Proof.Machine.execAdcZp b s
  | .rorZp b => Sys2Proof.Machine.execRorZp b s
  | .unassigned67 => Sys2Proof.Machine.execUnassigned67 s
  | .plaImp => Sys2Proof.Machine.execPlaImp s
  | .adcImm w => Sys2Proof.Machine.execAdcImm w s
  | .rorAcc => Sys2Proof.Machine.execRorAcc s
  | .unassigned6B => Sys2Proof.Machine.execUnassigned6B s
  | .jmpInd w => Sys2Proof.Machine.execJmpInd w s
  | .adcAbs w => Sys2Proof.Machine.execAdcAbs w s
  | .rorAbs w => Sys2Proof.Machine.execRorAbs w s
  | .unassigned6F => Sys2Proof.Machine.execUnassigned6F s
  | .bvsRel d => Sys2Proof.Machine.execBvsRel d s
  | .adcIzy b => Sys2Proof.Machine.execAdcIzy b s
  | .unassigned72 => Sys2Proof.Machine.execUnassigned72 s
  | .unassigned73 => Sys2Proof.Machine.execUnassigned73 s
  | .unassigned74 => Sys2Proof.Machine.execUnassigned74 s
  | .adcZpx b => Sys2Proof.Machine.execAdcZpx b s
  | .rorZpx b => Sys2Proof.Machine.execRorZpx b s
  | .unassigned77 => Sys2Proof.Machine.execUnassigned77 s
  | .seiImp => Sys2Proof.Machine.execSeiImp s
  | .adcAby w => Sys2Proof.Machine.execAdcAby w s
  | .unassigned7A => Sys2Proof.Machine.execUnassigned7A s
  | .unassigned7B => Sys2Proof.Machine.execUnassigned7B s
  | .unassigned7C => Sys2Proof.Machine.execUnassigned7C s
  | .adcAbx w => Sys2Proof.Machine.execAdcAbx w s
  | .rorAbx w => Sys2Proof.Machine.execRorAbx w s
  | .unassigned7F => Sys2Proof.Machine.execUnassigned7F s
  | .unassigned80 => Sys2Proof.Machine.execUnassigned80 s
  | .staIzx b => Sys2Proof.Machine.execStaIzx b s
  | .unassigned82 => Sys2Proof.Machine.execUnassigned82 s
  | .unassigned83 => Sys2Proof.Machine.execUnassigned83 s
  | .styZp b => Sys2Proof.Machine.execStyZp b s
  | .staZp b => Sys2Proof.Machine.execStaZp b s
  | .stxZp b => Sys2Proof.Machine.execStxZp b s
  | .unassigned87 => Sys2Proof.Machine.execUnassigned87 s
  | .deyImp => Sys2Proof.Machine.execDeyImp s
  | .unassigned89 => Sys2Proof.Machine.execUnassigned89 s
  | .txaImp => Sys2Proof.Machine.execTxaImp s
  | .unassigned8B => Sys2Proof.Machine.execUnassigned8B s
  | .styAbs w => Sys2Proof.Machine.execStyAbs w s
  | .staAbs w => Sys2Proof.Machine.execStaAbs w s
  | .stxAbs w => Sys2Proof.Machine.execStxAbs w s
  | .unassigned8F => Sys2Proof.Machine.execUnassigned8F s
  | .bccRel d => Sys2Proof.Machine.execBccRel d s
  | .staIzy b => Sys2Proof.Machine.execStaIzy b s
  | .unassigned92 => Sys2Proof.Machine.execUnassigned92 s
  | .unassigned93 => Sys2Proof.Machine.execUnassigned93 s
  | .styZpx b => Sys2Proof.Machine.execStyZpx b s
  | .staZpx b => Sys2Proof.Machine.execStaZpx b s
  | .stxZpy b => Sys2Proof.Machine.execStxZpy b s
  | .unassigned97 => Sys2Proof.Machine.execUnassigned97 s
  | .tyaImp => Sys2Proof.Machine.execTyaImp s
  | .staAby w => Sys2Proof.Machine.execStaAby w s
  | .txsImp => Sys2Proof.Machine.execTxsImp s
  | .unassigned9B => Sys2Proof.Machine.execUnassigned9B s
  | .unassigned9C => Sys2Proof.Machine.execUnassigned9C s
  | .staAbx w => Sys2Proof.Machine.execStaAbx w s
  | .unassigned9E => Sys2Proof.Machine.execUnassigned9E s
  | .unassigned9F => Sys2Proof.Machine.execUnassigned9F s
  | .ldyImm w => Sys2Proof.Machine.execLdyImm w s
  | .ldaIzx b => Sys2Proof.Machine.execLdaIzx b s
  | .ldxImm w => Sys2Proof.Machine.execLdxImm w s
  | .unassignedA3 => Sys2Proof.Machine.execUnassignedA3 s
  | .ldyZp b => Sys2Proof.Machine.execLdyZp b s
  | .ldaZp b => Sys2Proof.Machine.execLdaZp b s
  | .ldxZp b => Sys2Proof.Machine.execLdxZp b s
  | .unassignedA7 => Sys2Proof.Machine.execUnassignedA7 s
  | .tayImp => Sys2Proof.Machine.execTayImp s
  | .ldaImm w => Sys2Proof.Machine.execLdaImm w s
  | .taxImp => Sys2Proof.Machine.execTaxImp s
  | .unassignedAB => Sys2Proof.Machine.execUnassignedAB s
  | .ldyAbs w => Sys2Proof.Machine.execLdyAbs w s
  | .ldaAbs w => Sys2Proof.Machine.execLdaAbs w s
  | .ldxAbs w => Sys2Proof.Machine.execLdxAbs w s
  | .unassignedAF => Sys2Proof.Machine.execUnassignedAF s
  | .bcsRel d => Sys2Proof.Machine.execBcsRel d s
  | .ldaIzy b => Sys2Proof.Machine.execLdaIzy b s
  | .unassignedB2 => Sys2Proof.Machine.execUnassignedB2 s
  | .unassignedB3 => Sys2Proof.Machine.execUnassignedB3 s
  | .ldyZpx b => Sys2Proof.Machine.execLdyZpx b s
  | .ldaZpx b => Sys2Proof.Machine.execLdaZpx b s
  | .ldxZpy b => Sys2Proof.Machine.execLdxZpy b s
  | .unassignedB7 => Sys2Proof.Machine.execUnassignedB7 s
  | .clvImp => Sys2Proof.Machine.execClvImp s
  | .ldaAby w => Sys2Proof.Machine.execLdaAby w s
  | .tsxImp => Sys2Proof.Machine.execTsxImp s
  | .unassignedBB => Sys2Proof.Machine.execUnassignedBB s
  | .ldyAbx w => Sys2Proof.Machine.execLdyAbx w s
  | .ldaAbx w => Sys2Proof.Machine.execLdaAbx w s
  | .ldxAby w => Sys2Proof.Machine.execLdxAby w s
  | .unassignedBF => Sys2Proof.Machine.execUnassignedBF s
  | .cpyImm w => Sys2Proof.Machine.execCpyImm w s
  | .cmpIzx b => Sys2Proof.Machine.execCmpIzx b s
  | .unassignedC2 => Sys2Proof.Machine.execUnassignedC2 s
  | .unassignedC3 => Sys2Proof.Machine.execUnassignedC3 s
  | .cpyZp b => Sys2Proof.Machine.execCpyZp b s
  | .cmpZp b => Sys2Proof.Machine.execCmpZp b s
  | .decZp b => Sys2Proof.Machine.execDecZp b s
  | .unassignedC7 => Sys2Proof.Machine.execUnassignedC7 s
  | .inyImp => Sys2Proof.Machine.execInyImp s
  | .cmpImm w => Sys2Proof.Machine.execCmpImm w s
  | .dexImp => Sys2Proof.Machine.execDexImp s
  | .unassignedCB => Sys2Proof.Machine.execUnassignedCB s
  | .cpyAbs w => Sys2Proof.Machine.execCpyAbs w s
  | .cmpAbs w => Sys2Proof.Machine.execCmpAbs w s
  | .decAbs w => Sys2Proof.Machine.execDecAbs w s
  | .unassignedCF => Sys2Proof.Machine.execUnassignedCF s
  | .bneRel d => Sys2Proof.Machine.execBneRel d s
  | .cmpIzy b => Sys2Proof.Machine.execCmpIzy b s
  | .unassignedD2 => Sys2Proof.Machine.execUnassignedD2 s
  | .unassignedD3 => Sys2Proof.Machine.execUnassignedD3 s
  | .unassignedD4 => Sys2Proof.Machine.execUnassignedD4 s
  | .cmpZpx b => Sys2Proof.Machine.execCmpZpx b s
  | .decZpx b => Sys2Proof.Machine.execDecZpx b s
  | .unassignedD7 => Sys2Proof.Machine.execUnassignedD7 s
  | .cldImp => Sys2Proof.Machine.execCldImp s
  | .cmpAby w => Sys2Proof.Machine.execCmpAby w s
  | .unassignedDA => Sys2Proof.Machine.execUnassignedDA s
  | .unassignedDB => Sys2Proof.Machine.execUnassignedDB s
  | .unassignedDC => Sys2Proof.Machine.execUnassignedDC s
  | .cmpAbx w => Sys2Proof.Machine.execCmpAbx w s
  | .decAbx w => Sys2Proof.Machine.execDecAbx w s
  | .unassignedDF => Sys2Proof.Machine.execUnassignedDF s
  | .cpxImm w => Sys2Proof.Machine.execCpxImm w s
  | .sbcIzx b => Sys2Proof.Machine.execSbcIzx b s
  | .unassignedE2 => Sys2Proof.Machine.execUnassignedE2 s
  | .unassignedE3 => Sys2Proof.Machine.execUnassignedE3 s
  | .cpxZp b => Sys2Proof.Machine.execCpxZp b s
  | .sbcZp b => Sys2Proof.Machine.execSbcZp b s
  | .incZp b => Sys2Proof.Machine.execIncZp b s
  | .unassignedE7 => Sys2Proof.Machine.execUnassignedE7 s
  | .inxImp => Sys2Proof.Machine.execInxImp s
  | .sbcImm w => Sys2Proof.Machine.execSbcImm w s
  | .nopImp => Sys2Proof.Machine.execNopImp s
  | .unassignedEB => Sys2Proof.Machine.execUnassignedEB s
  | .cpxAbs w => Sys2Proof.Machine.execCpxAbs w s
  | .sbcAbs w => Sys2Proof.Machine.execSbcAbs w s
  | .incAbs w => Sys2Proof.Machine.execIncAbs w s
  | .unassignedEF => Sys2Proof.Machine.execUnassignedEF s
  | .beqRel d => Sys2Proof.Machine.execBeqRel d s
  | .sbcIzy b => Sys2Proof.Machine.execSbcIzy b s
  | .unassignedF2 => Sys2Proof.Machine.execUnassignedF2 s
  | .unassignedF3 => Sys2Proof.Machine.execUnassignedF3 s
  | .unassignedF4 => Sys2Proof.Machine.execUnassignedF4 s
  | .sbcZpx b => Sys2Proof.Machine.execSbcZpx b s
  | .incZpx b => Sys2Proof.Machine.execIncZpx b s
  | .unassignedF7 => Sys2Proof.Machine.execUnassignedF7 s
  | .sedImp => Sys2Proof.Machine.execSedImp s
  | .sbcAby w => Sys2Proof.Machine.execSbcAby w s
  | .unassignedFA => Sys2Proof.Machine.execUnassignedFA s
  | .unassignedFB => Sys2Proof.Machine.execUnassignedFB s
  | .unassignedFC => Sys2Proof.Machine.execUnassignedFC s
  | .sbcAbx w => Sys2Proof.Machine.execSbcAbx w s
  | .incAbx w => Sys2Proof.Machine.execIncAbx w s
  | .unassignedFF => Sys2Proof.Machine.execUnassignedFF s

end Sys2Proof.Machine
end

