-- ==== Sys2Proof/Decode.lean ====
section
/-! DEFINITION. Decoding by table lookup on the opcode byte (spec 30_encoding.md R70, R74), total on any bytes, and
the encoder. All 8 bits of the opcode byte select the row; there are no bit fields. -/

namespace Sys2Proof

/-- The number of bytes of an instruction of a mode (R72). -/
def Mode.length : Mode → Nat
  | .imp => 1
  | .acc => 1
  | .imm => 2
  | .zp => 2
  | .zpx => 2
  | .zpy => 2
  | .izx => 2
  | .izy => 2
  | .rel => 2
  | .abs => 3
  | .abx => 3
  | .aby => 3
  | .ind => 3

/-- A row of the opcode table: the mode, none for an unassigned opcode, and the instruction the row makes of the
first and second operand byte. -/
abbrev OpcodeRow := Option Mode × (Byte → Byte → Instr)

/-- Row 0x of the map of R76. -/
def opcodeRow0 : List OpcodeRow :=
  [(some Mode.imp, fun _ _ => Instr.brkImp),
   (some Mode.izx, fun b1 _ => Instr.oraIzx b1),
   (none, fun _ _ => Instr.unassigned02),
   (none, fun _ _ => Instr.unassigned03),
   (none, fun _ _ => Instr.unassigned04),
   (some Mode.zp, fun b1 _ => Instr.oraZp b1),
   (some Mode.zp, fun b1 _ => Instr.aslZp b1),
   (none, fun _ _ => Instr.unassigned07),
   (some Mode.imp, fun _ _ => Instr.phpImp),
   (some Mode.imm, fun b1 _ => Instr.oraImm b1),
   (some Mode.acc, fun _ _ => Instr.aslAcc),
   (none, fun _ _ => Instr.unassigned0B),
   (none, fun _ _ => Instr.unassigned0C),
   (some Mode.abs, fun b1 b2 => Instr.oraAbs (word b2 b1)),
   (some Mode.abs, fun b1 b2 => Instr.aslAbs (word b2 b1)),
   (none, fun _ _ => Instr.unassigned0F)]

/-- Row 1x of the map of R76. -/
def opcodeRow1 : List OpcodeRow :=
  [(some Mode.rel, fun b1 _ => Instr.bplRel b1),
   (some Mode.izy, fun b1 _ => Instr.oraIzy b1),
   (none, fun _ _ => Instr.unassigned12),
   (none, fun _ _ => Instr.unassigned13),
   (none, fun _ _ => Instr.unassigned14),
   (some Mode.zpx, fun b1 _ => Instr.oraZpx b1),
   (some Mode.zpx, fun b1 _ => Instr.aslZpx b1),
   (none, fun _ _ => Instr.unassigned17),
   (some Mode.imp, fun _ _ => Instr.clcImp),
   (some Mode.aby, fun b1 b2 => Instr.oraAby (word b2 b1)),
   (none, fun _ _ => Instr.unassigned1A),
   (none, fun _ _ => Instr.unassigned1B),
   (none, fun _ _ => Instr.unassigned1C),
   (some Mode.abx, fun b1 b2 => Instr.oraAbx (word b2 b1)),
   (some Mode.abx, fun b1 b2 => Instr.aslAbx (word b2 b1)),
   (none, fun _ _ => Instr.unassigned1F)]

/-- Row 2x of the map of R76. -/
def opcodeRow2 : List OpcodeRow :=
  [(some Mode.abs, fun b1 b2 => Instr.jsrAbs (word b2 b1)),
   (some Mode.izx, fun b1 _ => Instr.andIzx b1),
   (none, fun _ _ => Instr.unassigned22),
   (none, fun _ _ => Instr.unassigned23),
   (some Mode.zp, fun b1 _ => Instr.bitZp b1),
   (some Mode.zp, fun b1 _ => Instr.andZp b1),
   (some Mode.zp, fun b1 _ => Instr.rolZp b1),
   (none, fun _ _ => Instr.unassigned27),
   (some Mode.imp, fun _ _ => Instr.plpImp),
   (some Mode.imm, fun b1 _ => Instr.andImm b1),
   (some Mode.acc, fun _ _ => Instr.rolAcc),
   (none, fun _ _ => Instr.unassigned2B),
   (some Mode.abs, fun b1 b2 => Instr.bitAbs (word b2 b1)),
   (some Mode.abs, fun b1 b2 => Instr.andAbs (word b2 b1)),
   (some Mode.abs, fun b1 b2 => Instr.rolAbs (word b2 b1)),
   (none, fun _ _ => Instr.unassigned2F)]

/-- Row 3x of the map of R76. -/
def opcodeRow3 : List OpcodeRow :=
  [(some Mode.rel, fun b1 _ => Instr.bmiRel b1),
   (some Mode.izy, fun b1 _ => Instr.andIzy b1),
   (none, fun _ _ => Instr.unassigned32),
   (none, fun _ _ => Instr.unassigned33),
   (none, fun _ _ => Instr.unassigned34),
   (some Mode.zpx, fun b1 _ => Instr.andZpx b1),
   (some Mode.zpx, fun b1 _ => Instr.rolZpx b1),
   (none, fun _ _ => Instr.unassigned37),
   (some Mode.imp, fun _ _ => Instr.secImp),
   (some Mode.aby, fun b1 b2 => Instr.andAby (word b2 b1)),
   (none, fun _ _ => Instr.unassigned3A),
   (none, fun _ _ => Instr.unassigned3B),
   (none, fun _ _ => Instr.unassigned3C),
   (some Mode.abx, fun b1 b2 => Instr.andAbx (word b2 b1)),
   (some Mode.abx, fun b1 b2 => Instr.rolAbx (word b2 b1)),
   (none, fun _ _ => Instr.unassigned3F)]

/-- Row 4x of the map of R76. -/
def opcodeRow4 : List OpcodeRow :=
  [(some Mode.imp, fun _ _ => Instr.rtiImp),
   (some Mode.izx, fun b1 _ => Instr.eorIzx b1),
   (none, fun _ _ => Instr.unassigned42),
   (none, fun _ _ => Instr.unassigned43),
   (none, fun _ _ => Instr.unassigned44),
   (some Mode.zp, fun b1 _ => Instr.eorZp b1),
   (some Mode.zp, fun b1 _ => Instr.lsrZp b1),
   (none, fun _ _ => Instr.unassigned47),
   (some Mode.imp, fun _ _ => Instr.phaImp),
   (some Mode.imm, fun b1 _ => Instr.eorImm b1),
   (some Mode.acc, fun _ _ => Instr.lsrAcc),
   (none, fun _ _ => Instr.unassigned4B),
   (some Mode.abs, fun b1 b2 => Instr.jmpAbs (word b2 b1)),
   (some Mode.abs, fun b1 b2 => Instr.eorAbs (word b2 b1)),
   (some Mode.abs, fun b1 b2 => Instr.lsrAbs (word b2 b1)),
   (none, fun _ _ => Instr.unassigned4F)]

/-- Row 5x of the map of R76. -/
def opcodeRow5 : List OpcodeRow :=
  [(some Mode.rel, fun b1 _ => Instr.bvcRel b1),
   (some Mode.izy, fun b1 _ => Instr.eorIzy b1),
   (none, fun _ _ => Instr.unassigned52),
   (none, fun _ _ => Instr.unassigned53),
   (none, fun _ _ => Instr.unassigned54),
   (some Mode.zpx, fun b1 _ => Instr.eorZpx b1),
   (some Mode.zpx, fun b1 _ => Instr.lsrZpx b1),
   (none, fun _ _ => Instr.unassigned57),
   (some Mode.imp, fun _ _ => Instr.cliImp),
   (some Mode.aby, fun b1 b2 => Instr.eorAby (word b2 b1)),
   (none, fun _ _ => Instr.unassigned5A),
   (none, fun _ _ => Instr.unassigned5B),
   (none, fun _ _ => Instr.unassigned5C),
   (some Mode.abx, fun b1 b2 => Instr.eorAbx (word b2 b1)),
   (some Mode.abx, fun b1 b2 => Instr.lsrAbx (word b2 b1)),
   (none, fun _ _ => Instr.unassigned5F)]

/-- Row 6x of the map of R76. -/
def opcodeRow6 : List OpcodeRow :=
  [(some Mode.imp, fun _ _ => Instr.rtsImp),
   (some Mode.izx, fun b1 _ => Instr.adcIzx b1),
   (none, fun _ _ => Instr.unassigned62),
   (none, fun _ _ => Instr.unassigned63),
   (none, fun _ _ => Instr.unassigned64),
   (some Mode.zp, fun b1 _ => Instr.adcZp b1),
   (some Mode.zp, fun b1 _ => Instr.rorZp b1),
   (none, fun _ _ => Instr.unassigned67),
   (some Mode.imp, fun _ _ => Instr.plaImp),
   (some Mode.imm, fun b1 _ => Instr.adcImm b1),
   (some Mode.acc, fun _ _ => Instr.rorAcc),
   (none, fun _ _ => Instr.unassigned6B),
   (some Mode.ind, fun b1 b2 => Instr.jmpInd (word b2 b1)),
   (some Mode.abs, fun b1 b2 => Instr.adcAbs (word b2 b1)),
   (some Mode.abs, fun b1 b2 => Instr.rorAbs (word b2 b1)),
   (none, fun _ _ => Instr.unassigned6F)]

/-- Row 7x of the map of R76. -/
def opcodeRow7 : List OpcodeRow :=
  [(some Mode.rel, fun b1 _ => Instr.bvsRel b1),
   (some Mode.izy, fun b1 _ => Instr.adcIzy b1),
   (none, fun _ _ => Instr.unassigned72),
   (none, fun _ _ => Instr.unassigned73),
   (none, fun _ _ => Instr.unassigned74),
   (some Mode.zpx, fun b1 _ => Instr.adcZpx b1),
   (some Mode.zpx, fun b1 _ => Instr.rorZpx b1),
   (none, fun _ _ => Instr.unassigned77),
   (some Mode.imp, fun _ _ => Instr.seiImp),
   (some Mode.aby, fun b1 b2 => Instr.adcAby (word b2 b1)),
   (none, fun _ _ => Instr.unassigned7A),
   (none, fun _ _ => Instr.unassigned7B),
   (none, fun _ _ => Instr.unassigned7C),
   (some Mode.abx, fun b1 b2 => Instr.adcAbx (word b2 b1)),
   (some Mode.abx, fun b1 b2 => Instr.rorAbx (word b2 b1)),
   (none, fun _ _ => Instr.unassigned7F)]

/-- Row 8x of the map of R76. -/
def opcodeRow8 : List OpcodeRow :=
  [(none, fun _ _ => Instr.unassigned80),
   (some Mode.izx, fun b1 _ => Instr.staIzx b1),
   (none, fun _ _ => Instr.unassigned82),
   (none, fun _ _ => Instr.unassigned83),
   (some Mode.zp, fun b1 _ => Instr.styZp b1),
   (some Mode.zp, fun b1 _ => Instr.staZp b1),
   (some Mode.zp, fun b1 _ => Instr.stxZp b1),
   (none, fun _ _ => Instr.unassigned87),
   (some Mode.imp, fun _ _ => Instr.deyImp),
   (none, fun _ _ => Instr.unassigned89),
   (some Mode.imp, fun _ _ => Instr.txaImp),
   (none, fun _ _ => Instr.unassigned8B),
   (some Mode.abs, fun b1 b2 => Instr.styAbs (word b2 b1)),
   (some Mode.abs, fun b1 b2 => Instr.staAbs (word b2 b1)),
   (some Mode.abs, fun b1 b2 => Instr.stxAbs (word b2 b1)),
   (none, fun _ _ => Instr.unassigned8F)]

/-- Row 9x of the map of R76. -/
def opcodeRow9 : List OpcodeRow :=
  [(some Mode.rel, fun b1 _ => Instr.bccRel b1),
   (some Mode.izy, fun b1 _ => Instr.staIzy b1),
   (none, fun _ _ => Instr.unassigned92),
   (none, fun _ _ => Instr.unassigned93),
   (some Mode.zpx, fun b1 _ => Instr.styZpx b1),
   (some Mode.zpx, fun b1 _ => Instr.staZpx b1),
   (some Mode.zpy, fun b1 _ => Instr.stxZpy b1),
   (none, fun _ _ => Instr.unassigned97),
   (some Mode.imp, fun _ _ => Instr.tyaImp),
   (some Mode.aby, fun b1 b2 => Instr.staAby (word b2 b1)),
   (some Mode.imp, fun _ _ => Instr.txsImp),
   (none, fun _ _ => Instr.unassigned9B),
   (none, fun _ _ => Instr.unassigned9C),
   (some Mode.abx, fun b1 b2 => Instr.staAbx (word b2 b1)),
   (none, fun _ _ => Instr.unassigned9E),
   (none, fun _ _ => Instr.unassigned9F)]

/-- Row Ax of the map of R76. -/
def opcodeRowA : List OpcodeRow :=
  [(some Mode.imm, fun b1 _ => Instr.ldyImm b1),
   (some Mode.izx, fun b1 _ => Instr.ldaIzx b1),
   (some Mode.imm, fun b1 _ => Instr.ldxImm b1),
   (none, fun _ _ => Instr.unassignedA3),
   (some Mode.zp, fun b1 _ => Instr.ldyZp b1),
   (some Mode.zp, fun b1 _ => Instr.ldaZp b1),
   (some Mode.zp, fun b1 _ => Instr.ldxZp b1),
   (none, fun _ _ => Instr.unassignedA7),
   (some Mode.imp, fun _ _ => Instr.tayImp),
   (some Mode.imm, fun b1 _ => Instr.ldaImm b1),
   (some Mode.imp, fun _ _ => Instr.taxImp),
   (none, fun _ _ => Instr.unassignedAB),
   (some Mode.abs, fun b1 b2 => Instr.ldyAbs (word b2 b1)),
   (some Mode.abs, fun b1 b2 => Instr.ldaAbs (word b2 b1)),
   (some Mode.abs, fun b1 b2 => Instr.ldxAbs (word b2 b1)),
   (none, fun _ _ => Instr.unassignedAF)]

/-- Row Bx of the map of R76. -/
def opcodeRowB : List OpcodeRow :=
  [(some Mode.rel, fun b1 _ => Instr.bcsRel b1),
   (some Mode.izy, fun b1 _ => Instr.ldaIzy b1),
   (none, fun _ _ => Instr.unassignedB2),
   (none, fun _ _ => Instr.unassignedB3),
   (some Mode.zpx, fun b1 _ => Instr.ldyZpx b1),
   (some Mode.zpx, fun b1 _ => Instr.ldaZpx b1),
   (some Mode.zpy, fun b1 _ => Instr.ldxZpy b1),
   (none, fun _ _ => Instr.unassignedB7),
   (some Mode.imp, fun _ _ => Instr.clvImp),
   (some Mode.aby, fun b1 b2 => Instr.ldaAby (word b2 b1)),
   (some Mode.imp, fun _ _ => Instr.tsxImp),
   (none, fun _ _ => Instr.unassignedBB),
   (some Mode.abx, fun b1 b2 => Instr.ldyAbx (word b2 b1)),
   (some Mode.abx, fun b1 b2 => Instr.ldaAbx (word b2 b1)),
   (some Mode.aby, fun b1 b2 => Instr.ldxAby (word b2 b1)),
   (none, fun _ _ => Instr.unassignedBF)]

/-- Row Cx of the map of R76. -/
def opcodeRowC : List OpcodeRow :=
  [(some Mode.imm, fun b1 _ => Instr.cpyImm b1),
   (some Mode.izx, fun b1 _ => Instr.cmpIzx b1),
   (none, fun _ _ => Instr.unassignedC2),
   (none, fun _ _ => Instr.unassignedC3),
   (some Mode.zp, fun b1 _ => Instr.cpyZp b1),
   (some Mode.zp, fun b1 _ => Instr.cmpZp b1),
   (some Mode.zp, fun b1 _ => Instr.decZp b1),
   (none, fun _ _ => Instr.unassignedC7),
   (some Mode.imp, fun _ _ => Instr.inyImp),
   (some Mode.imm, fun b1 _ => Instr.cmpImm b1),
   (some Mode.imp, fun _ _ => Instr.dexImp),
   (none, fun _ _ => Instr.unassignedCB),
   (some Mode.abs, fun b1 b2 => Instr.cpyAbs (word b2 b1)),
   (some Mode.abs, fun b1 b2 => Instr.cmpAbs (word b2 b1)),
   (some Mode.abs, fun b1 b2 => Instr.decAbs (word b2 b1)),
   (none, fun _ _ => Instr.unassignedCF)]

/-- Row Dx of the map of R76. -/
def opcodeRowD : List OpcodeRow :=
  [(some Mode.rel, fun b1 _ => Instr.bneRel b1),
   (some Mode.izy, fun b1 _ => Instr.cmpIzy b1),
   (none, fun _ _ => Instr.unassignedD2),
   (none, fun _ _ => Instr.unassignedD3),
   (none, fun _ _ => Instr.unassignedD4),
   (some Mode.zpx, fun b1 _ => Instr.cmpZpx b1),
   (some Mode.zpx, fun b1 _ => Instr.decZpx b1),
   (none, fun _ _ => Instr.unassignedD7),
   (some Mode.imp, fun _ _ => Instr.cldImp),
   (some Mode.aby, fun b1 b2 => Instr.cmpAby (word b2 b1)),
   (none, fun _ _ => Instr.unassignedDA),
   (none, fun _ _ => Instr.unassignedDB),
   (none, fun _ _ => Instr.unassignedDC),
   (some Mode.abx, fun b1 b2 => Instr.cmpAbx (word b2 b1)),
   (some Mode.abx, fun b1 b2 => Instr.decAbx (word b2 b1)),
   (none, fun _ _ => Instr.unassignedDF)]

/-- Row Ex of the map of R76. -/
def opcodeRowE : List OpcodeRow :=
  [(some Mode.imm, fun b1 _ => Instr.cpxImm b1),
   (some Mode.izx, fun b1 _ => Instr.sbcIzx b1),
   (none, fun _ _ => Instr.unassignedE2),
   (none, fun _ _ => Instr.unassignedE3),
   (some Mode.zp, fun b1 _ => Instr.cpxZp b1),
   (some Mode.zp, fun b1 _ => Instr.sbcZp b1),
   (some Mode.zp, fun b1 _ => Instr.incZp b1),
   (none, fun _ _ => Instr.unassignedE7),
   (some Mode.imp, fun _ _ => Instr.inxImp),
   (some Mode.imm, fun b1 _ => Instr.sbcImm b1),
   (some Mode.imp, fun _ _ => Instr.nopImp),
   (none, fun _ _ => Instr.unassignedEB),
   (some Mode.abs, fun b1 b2 => Instr.cpxAbs (word b2 b1)),
   (some Mode.abs, fun b1 b2 => Instr.sbcAbs (word b2 b1)),
   (some Mode.abs, fun b1 b2 => Instr.incAbs (word b2 b1)),
   (none, fun _ _ => Instr.unassignedEF)]

/-- Row Fx of the map of R76. -/
def opcodeRowF : List OpcodeRow :=
  [(some Mode.rel, fun b1 _ => Instr.beqRel b1),
   (some Mode.izy, fun b1 _ => Instr.sbcIzy b1),
   (none, fun _ _ => Instr.unassignedF2),
   (none, fun _ _ => Instr.unassignedF3),
   (none, fun _ _ => Instr.unassignedF4),
   (some Mode.zpx, fun b1 _ => Instr.sbcZpx b1),
   (some Mode.zpx, fun b1 _ => Instr.incZpx b1),
   (none, fun _ _ => Instr.unassignedF7),
   (some Mode.imp, fun _ _ => Instr.sedImp),
   (some Mode.aby, fun b1 b2 => Instr.sbcAby (word b2 b1)),
   (none, fun _ _ => Instr.unassignedFA),
   (none, fun _ _ => Instr.unassignedFB),
   (none, fun _ _ => Instr.unassignedFC),
   (some Mode.abx, fun b1 b2 => Instr.sbcAbx (word b2 b1)),
   (some Mode.abx, fun b1 b2 => Instr.incAbx (word b2 b1)),
   (none, fun _ _ => Instr.unassignedFF)]

/-- The opcode table (10_state.md R26), row by row: the high digit of the opcode selects the row. -/
def opcodeTable : List (List OpcodeRow) :=
  [opcodeRow0, opcodeRow1, opcodeRow2, opcodeRow3, opcodeRow4, opcodeRow5, opcodeRow6, opcodeRow7,
   opcodeRow8, opcodeRow9, opcodeRowA, opcodeRowB, opcodeRowC, opcodeRowD, opcodeRowE, opcodeRowF]

/-- The row of an opcode byte: high digit, then low digit. The default is never used: the table is full. -/
def opcodeRow (opcode : Byte) : OpcodeRow :=
  match opcode.toFin with
  | ⟨k, _⟩ => (opcodeTable.getD (k / 16) []).getD (k % 16) (none, fun _ _ => Instr.nopImp)

/-- The mode of an opcode byte, none when it is absent from the table (R74). -/
def modeOf (opcode : Byte) : Option Mode := (opcodeRow opcode).1

/-- The instruction of an opcode byte and its operand bytes; bytes past the instruction's length do not matter. -/
def decodeBytes (opcode b1 b2 : Byte) : Instr := (opcodeRow opcode).2 b1 b2

/-- The length of the instruction an opcode byte begins (R72): 1 when unassigned. -/
def lengthOf (opcode : Byte) : Nat :=
  match modeOf opcode with
  | some mode => mode.length
  | none => 1

/-- What the decoder makes of a list of bytes: an instruction and the bytes after it, or a rejection by name. -/
inductive Decoded
  | ok (i : Instr) (rest : List Byte)
  /-- there is no opcode byte -/
  | noOpcode
  /-- the opcode byte asks for more operand bytes than there are -/
  | missingOperand (opcode : Byte)
deriving DecidableEq, Repr

/-- Decode the instruction at the head of a list of bytes. -/
def decode : List Byte → Decoded
  | [] => .noOpcode
  | opcode :: bytes =>
    match lengthOf opcode, bytes with
    | 1, rest => .ok (decodeBytes opcode 0 0) rest
    | 2, b1 :: rest => .ok (decodeBytes opcode b1 0) rest
    | 3, b1 :: b2 :: rest => .ok (decodeBytes opcode b1 b2) rest
    | _, _ => .missingOperand opcode

/-! ## The encoder -/

/-- The opcode byte of an instruction (R76, R77). -/
def Instr.opcode : Instr → Byte
  | .brkImp => 0x00
  | .oraIzx _ => 0x01
  | .unassigned02 => 0x02
  | .unassigned03 => 0x03
  | .unassigned04 => 0x04
  | .oraZp _ => 0x05
  | .aslZp _ => 0x06
  | .unassigned07 => 0x07
  | .phpImp => 0x08
  | .oraImm _ => 0x09
  | .aslAcc => 0x0A
  | .unassigned0B => 0x0B
  | .unassigned0C => 0x0C
  | .oraAbs _ => 0x0D
  | .aslAbs _ => 0x0E
  | .unassigned0F => 0x0F
  | .bplRel _ => 0x10
  | .oraIzy _ => 0x11
  | .unassigned12 => 0x12
  | .unassigned13 => 0x13
  | .unassigned14 => 0x14
  | .oraZpx _ => 0x15
  | .aslZpx _ => 0x16
  | .unassigned17 => 0x17
  | .clcImp => 0x18
  | .oraAby _ => 0x19
  | .unassigned1A => 0x1A
  | .unassigned1B => 0x1B
  | .unassigned1C => 0x1C
  | .oraAbx _ => 0x1D
  | .aslAbx _ => 0x1E
  | .unassigned1F => 0x1F
  | .jsrAbs _ => 0x20
  | .andIzx _ => 0x21
  | .unassigned22 => 0x22
  | .unassigned23 => 0x23
  | .bitZp _ => 0x24
  | .andZp _ => 0x25
  | .rolZp _ => 0x26
  | .unassigned27 => 0x27
  | .plpImp => 0x28
  | .andImm _ => 0x29
  | .rolAcc => 0x2A
  | .unassigned2B => 0x2B
  | .bitAbs _ => 0x2C
  | .andAbs _ => 0x2D
  | .rolAbs _ => 0x2E
  | .unassigned2F => 0x2F
  | .bmiRel _ => 0x30
  | .andIzy _ => 0x31
  | .unassigned32 => 0x32
  | .unassigned33 => 0x33
  | .unassigned34 => 0x34
  | .andZpx _ => 0x35
  | .rolZpx _ => 0x36
  | .unassigned37 => 0x37
  | .secImp => 0x38
  | .andAby _ => 0x39
  | .unassigned3A => 0x3A
  | .unassigned3B => 0x3B
  | .unassigned3C => 0x3C
  | .andAbx _ => 0x3D
  | .rolAbx _ => 0x3E
  | .unassigned3F => 0x3F
  | .rtiImp => 0x40
  | .eorIzx _ => 0x41
  | .unassigned42 => 0x42
  | .unassigned43 => 0x43
  | .unassigned44 => 0x44
  | .eorZp _ => 0x45
  | .lsrZp _ => 0x46
  | .unassigned47 => 0x47
  | .phaImp => 0x48
  | .eorImm _ => 0x49
  | .lsrAcc => 0x4A
  | .unassigned4B => 0x4B
  | .jmpAbs _ => 0x4C
  | .eorAbs _ => 0x4D
  | .lsrAbs _ => 0x4E
  | .unassigned4F => 0x4F
  | .bvcRel _ => 0x50
  | .eorIzy _ => 0x51
  | .unassigned52 => 0x52
  | .unassigned53 => 0x53
  | .unassigned54 => 0x54
  | .eorZpx _ => 0x55
  | .lsrZpx _ => 0x56
  | .unassigned57 => 0x57
  | .cliImp => 0x58
  | .eorAby _ => 0x59
  | .unassigned5A => 0x5A
  | .unassigned5B => 0x5B
  | .unassigned5C => 0x5C
  | .eorAbx _ => 0x5D
  | .lsrAbx _ => 0x5E
  | .unassigned5F => 0x5F
  | .rtsImp => 0x60
  | .adcIzx _ => 0x61
  | .unassigned62 => 0x62
  | .unassigned63 => 0x63
  | .unassigned64 => 0x64
  | .adcZp _ => 0x65
  | .rorZp _ => 0x66
  | .unassigned67 => 0x67
  | .plaImp => 0x68
  | .adcImm _ => 0x69
  | .rorAcc => 0x6A
  | .unassigned6B => 0x6B
  | .jmpInd _ => 0x6C
  | .adcAbs _ => 0x6D
  | .rorAbs _ => 0x6E
  | .unassigned6F => 0x6F
  | .bvsRel _ => 0x70
  | .adcIzy _ => 0x71
  | .unassigned72 => 0x72
  | .unassigned73 => 0x73
  | .unassigned74 => 0x74
  | .adcZpx _ => 0x75
  | .rorZpx _ => 0x76
  | .unassigned77 => 0x77
  | .seiImp => 0x78
  | .adcAby _ => 0x79
  | .unassigned7A => 0x7A
  | .unassigned7B => 0x7B
  | .unassigned7C => 0x7C
  | .adcAbx _ => 0x7D
  | .rorAbx _ => 0x7E
  | .unassigned7F => 0x7F
  | .unassigned80 => 0x80
  | .staIzx _ => 0x81
  | .unassigned82 => 0x82
  | .unassigned83 => 0x83
  | .styZp _ => 0x84
  | .staZp _ => 0x85
  | .stxZp _ => 0x86
  | .unassigned87 => 0x87
  | .deyImp => 0x88
  | .unassigned89 => 0x89
  | .txaImp => 0x8A
  | .unassigned8B => 0x8B
  | .styAbs _ => 0x8C
  | .staAbs _ => 0x8D
  | .stxAbs _ => 0x8E
  | .unassigned8F => 0x8F
  | .bccRel _ => 0x90
  | .staIzy _ => 0x91
  | .unassigned92 => 0x92
  | .unassigned93 => 0x93
  | .styZpx _ => 0x94
  | .staZpx _ => 0x95
  | .stxZpy _ => 0x96
  | .unassigned97 => 0x97
  | .tyaImp => 0x98
  | .staAby _ => 0x99
  | .txsImp => 0x9A
  | .unassigned9B => 0x9B
  | .unassigned9C => 0x9C
  | .staAbx _ => 0x9D
  | .unassigned9E => 0x9E
  | .unassigned9F => 0x9F
  | .ldyImm _ => 0xA0
  | .ldaIzx _ => 0xA1
  | .ldxImm _ => 0xA2
  | .unassignedA3 => 0xA3
  | .ldyZp _ => 0xA4
  | .ldaZp _ => 0xA5
  | .ldxZp _ => 0xA6
  | .unassignedA7 => 0xA7
  | .tayImp => 0xA8
  | .ldaImm _ => 0xA9
  | .taxImp => 0xAA
  | .unassignedAB => 0xAB
  | .ldyAbs _ => 0xAC
  | .ldaAbs _ => 0xAD
  | .ldxAbs _ => 0xAE
  | .unassignedAF => 0xAF
  | .bcsRel _ => 0xB0
  | .ldaIzy _ => 0xB1
  | .unassignedB2 => 0xB2
  | .unassignedB3 => 0xB3
  | .ldyZpx _ => 0xB4
  | .ldaZpx _ => 0xB5
  | .ldxZpy _ => 0xB6
  | .unassignedB7 => 0xB7
  | .clvImp => 0xB8
  | .ldaAby _ => 0xB9
  | .tsxImp => 0xBA
  | .unassignedBB => 0xBB
  | .ldyAbx _ => 0xBC
  | .ldaAbx _ => 0xBD
  | .ldxAby _ => 0xBE
  | .unassignedBF => 0xBF
  | .cpyImm _ => 0xC0
  | .cmpIzx _ => 0xC1
  | .unassignedC2 => 0xC2
  | .unassignedC3 => 0xC3
  | .cpyZp _ => 0xC4
  | .cmpZp _ => 0xC5
  | .decZp _ => 0xC6
  | .unassignedC7 => 0xC7
  | .inyImp => 0xC8
  | .cmpImm _ => 0xC9
  | .dexImp => 0xCA
  | .unassignedCB => 0xCB
  | .cpyAbs _ => 0xCC
  | .cmpAbs _ => 0xCD
  | .decAbs _ => 0xCE
  | .unassignedCF => 0xCF
  | .bneRel _ => 0xD0
  | .cmpIzy _ => 0xD1
  | .unassignedD2 => 0xD2
  | .unassignedD3 => 0xD3
  | .unassignedD4 => 0xD4
  | .cmpZpx _ => 0xD5
  | .decZpx _ => 0xD6
  | .unassignedD7 => 0xD7
  | .cldImp => 0xD8
  | .cmpAby _ => 0xD9
  | .unassignedDA => 0xDA
  | .unassignedDB => 0xDB
  | .unassignedDC => 0xDC
  | .cmpAbx _ => 0xDD
  | .decAbx _ => 0xDE
  | .unassignedDF => 0xDF
  | .cpxImm _ => 0xE0
  | .sbcIzx _ => 0xE1
  | .unassignedE2 => 0xE2
  | .unassignedE3 => 0xE3
  | .cpxZp _ => 0xE4
  | .sbcZp _ => 0xE5
  | .incZp _ => 0xE6
  | .unassignedE7 => 0xE7
  | .inxImp => 0xE8
  | .sbcImm _ => 0xE9
  | .nopImp => 0xEA
  | .unassignedEB => 0xEB
  | .cpxAbs _ => 0xEC
  | .sbcAbs _ => 0xED
  | .incAbs _ => 0xEE
  | .unassignedEF => 0xEF
  | .beqRel _ => 0xF0
  | .sbcIzy _ => 0xF1
  | .unassignedF2 => 0xF2
  | .unassignedF3 => 0xF3
  | .unassignedF4 => 0xF4
  | .sbcZpx _ => 0xF5
  | .incZpx _ => 0xF6
  | .unassignedF7 => 0xF7
  | .sedImp => 0xF8
  | .sbcAby _ => 0xF9
  | .unassignedFA => 0xFA
  | .unassignedFB => 0xFB
  | .unassignedFC => 0xFC
  | .sbcAbx _ => 0xFD
  | .incAbx _ => 0xFE
  | .unassignedFF => 0xFF

/-- The operand bytes of an addressing mode, low byte first (R71, 20_memory.md R45). -/
def AddrMode.bytes : AddrMode → List Byte
  | .zp b => [b]
  | .zpx b => [b]
  | .zpy b => [b]
  | .abs w => [loByte w, hiByte w]
  | .abx w => [loByte w, hiByte w]
  | .aby w => [loByte w, hiByte w]
  | .ind w => [loByte w, hiByte w]
  | .izx b => [b]
  | .izy b => [b]

/-- The operand bytes of a pair. -/
def Form.operandBytes : Form → List Byte
  | .read _ (.imm w) => [w]
  | .read _ (.mem m) => m.bytes
  | .store _ m => m.bytes
  | .modify _ m => m.bytes
  | .modifyAcc _ => []
  | .branch _ d => [d]
  | .jump m => m.bytes
  | .call w => [loByte w, hiByte w]
  | .implied _ => []
  | .unassigned _ => []

/-- The bytes of an instruction, the opcode first (R70). -/
def encode (i : Instr) : List Byte := i.opcode :: i.form.operandBytes

/-- The bytes of a number, bit 0 in the first byte. -/
def bytesOf : Nat → Nat → List Byte
  | 0, _ => []
  | k + 1, w => BitVec.ofNat 8 w :: bytesOf k (w / 256)

/-- The three bytes of an instruction given as a number of `nbits` bits, the bits above them 0. -/
def tableBytes (nbits w : Nat) : List Byte := bytesOf 3 (w % 2 ^ nbits)

/-- The instruction the decoder reads from bits numbered as spec/opcode_table.json numbers them. -/
def decodeTableWord (nbits w : Nat) : Option Instr :=
  match decode (tableBytes nbits w) with
  | .ok i _ => some i
  | .noOpcode => none
  | .missingOperand _ => none

end Sys2Proof
end

