-- ==== Sys2Proof/Machine/Timing.lean ====
section
/-! DEFINITION. The parameter INTERNAL_CYCLES (spec 70_reset_and_hazards.md R280, R281): the cycles an
instruction charges beyond its bus accesses and its penalties. The table is the spec's default (log 5). -/

namespace Sys2Proof.Machine

/-- The default INTERNAL_CYCLES (R281), row by row: the high digit of the opcode selects the row. An unassigned
opcode has no entry in the spec's table and 0 here, which nothing reads. -/
def defaultInternalTable : List (List Nat) :=
  [[1, 1, 0, 0, 0, 0, 1, 0, 1, 0, 1, 0, 0, 0, 1, 0],
   [0, 0, 0, 0, 0, 1, 2, 0, 1, 0, 0, 0, 0, 0, 1, 0],
   [1, 1, 0, 0, 0, 0, 1, 0, 2, 0, 1, 0, 0, 0, 1, 0],
   [0, 0, 0, 0, 0, 1, 2, 0, 1, 0, 0, 0, 0, 0, 1, 0],
   [2, 1, 0, 0, 0, 0, 1, 0, 1, 0, 1, 0, 0, 0, 1, 0],
   [0, 0, 0, 0, 0, 1, 2, 0, 1, 0, 0, 0, 0, 0, 1, 0],
   [3, 1, 0, 0, 0, 0, 1, 0, 2, 0, 1, 0, 0, 0, 1, 0],
   [0, 0, 0, 0, 0, 1, 2, 0, 1, 0, 0, 0, 0, 0, 1, 0],
   [0, 1, 0, 0, 0, 0, 0, 0, 1, 0, 1, 0, 0, 0, 0, 0],
   [0, 0, 0, 0, 1, 1, 1, 0, 1, 0, 1, 0, 0, 0, 0, 0],
   [0, 1, 0, 0, 0, 0, 0, 0, 1, 0, 1, 0, 0, 0, 0, 0],
   [0, 0, 0, 0, 1, 1, 1, 0, 1, 0, 1, 0, 0, 0, 0, 0],
   [0, 1, 0, 0, 0, 0, 1, 0, 1, 0, 1, 0, 0, 0, 1, 0],
   [0, 0, 0, 0, 0, 1, 2, 0, 1, 0, 0, 0, 0, 0, 1, 0],
   [0, 1, 0, 0, 0, 0, 1, 0, 1, 0, 1, 0, 0, 0, 1, 0],
   [0, 0, 0, 0, 0, 1, 2, 0, 1, 0, 0, 0, 0, 0, 1, 0]]

/-- The default INTERNAL_CYCLES of an opcode byte. -/
def defaultInternalCycles (opcode : Byte) : Nat :=
  match opcode.toFin with
  | ⟨k, _⟩ => (defaultInternalTable.getD (k / 16) []).getD (k % 16) 0

/-- INTERNAL_CYCLES of an engine: an override of its configuration, else the default table (R6). -/
def internalCycles (cfg : Config) (opcode : Byte) : Nat :=
  match cfg.internalOverride.lookup opcode.toNat with
  | some k => k
  | none => defaultInternalCycles opcode

end Sys2Proof.Machine
end

