-- ==== Sys2Proof/Machine/Fetch.lean ====
section
/-! DEFINITION. Fetching an instruction (spec 40_step_and_dispatch.md R93 to R95, 41_addressing_modes.md R110,
R111, R114): the opcode byte, the internal cycles, the operand bytes. -/

namespace Sys2Proof.Machine

/-- The immediate operand (R114): PC moves before the read. -/
def fetchImmediate (s : State) : Result (Byte × State) := memRead s.pc (s.setPC (s.pc + 1))

/-- The operand bytes of a mode, in address order; 0 stands for a byte the mode has not. -/
def fetchOperand (mode : Mode) (s : State) : Result ((Byte × Byte) × State) :=
  match mode.length, mode with
  | 1, _ => .next ((0, 0), s)
  | 2, .imm => bindVal (fetchImmediate s) fun b1 s => .next ((b1, 0), s)
  | 2, _ => bindVal (fetch8 s) fun b1 s => .next ((b1, 0), s)
  | _, _ => bindVal (fetch8 s) fun b1 s => bindVal (fetch8 s) fun b2 s => .next ((b1, b2), s)

/-- Fetch and decode one instruction: the opcode byte, then for an assigned opcode its internal cycles in one
piece (R95) and its operand bytes. -/
def fetchInstr (s : State) : Result (Instr × State) :=
  bindVal (fetch8 s) fun opcode s =>
  match modeOf opcode with
  | none => .next (decodeBytes opcode 0 0, s)
  | some mode =>
    bindVal (fetchOperand mode (s.tick (internalCycles s.cfg opcode))) fun bs s =>
    .next (decodeBytes opcode bs.1 bs.2, s)

/-! ## Placing an instruction where the next step fetches it (log 12) -/

/-- The address can be read: plain memory is put there where it could not. -/
def openForFetch (addr : Word) (s : State) : State :=
  if s.readable addr then s
  else { s with regions := { base := addr.toNat, size := 1, kind := .ram } :: s.regions }

/-- Bytes stored at successive addresses, with no access made. -/
def placeBytes : List Byte → Word → State → State
  | [], _, s => s
  | w :: ws, addr, s => placeBytes ws (addr + 1) ((openForFetch addr s).poke addr w)

/-- Nothing stands before the next fetch: the reset line is low and no interrupt would be answered. -/
def readyToFetch (s : State) : State :=
  { s with resetLine := false, nmiPending := false, irqLine := s.irqLine && s.i }

end Sys2Proof.Machine
end

