-- ==== Sys2Proof/Machine/Step.lean ====
section
/-! DEFINITION. One step of the engine (spec 40_step_and_dispatch.md R90): the reset line, the interrupt poll, then
exactly one instruction. -/

namespace Sys2Proof.Machine

/-- `Step()` (R90). With the reset line asserted nothing happens (R91). -/
def step (s : State) : Host.Outcome State Fault Refusal :=
  if s.resetLine then .next s
  else seq (pollInterrupts s) fun s => bindVal (fetchInstr s) fun i s => exec i s

/-- The state with an instruction stored where the next step fetches it, and nothing in the way of that fetch
(log 12). -/
def State.withFetchWord (s : State) (nbits w : Nat) : State :=
  placeBytes (tableBytes nbits w) s.pc (readyToFetch s)

end Sys2Proof.Machine
end

