-- ==== Sys2Proof/Machine/HostActions.lean ====
section
/-! DEFINITION. What the host can do between two steps (spec 00_scope.md R7), `Reset()`, the value `Step` returns,
and `Run`. None of it is part of `step`. -/

namespace Sys2Proof.Machine

/-- `Reset()` (70_reset_and_hazards.md R260): 5 cycles, I set, PC from the reset vector. Nothing is pushed. -/
def engineReset (s : State) : Result State :=
  bindVal (read16 resetVector ((s.tick 5).setI true)) fun target s => .next (s.setPC target)

/-- The seven flags (10_state.md R15). -/
inductive Flag
  | c | z | i | d | b | v | n
deriving DecidableEq, Repr

/-- The host's actions on the engine and on the memory it owns (R7, R31; 20_memory.md R50). -/
inductive HostAction
  | setResetLine (level : Bool)
  | setIrqLine (level : Bool)
  | setNmiLine (level : Bool)
  | triggerNmi
  | setPolicy (policy : Policy)
  | writeA (w : Byte)
  | writeX (w : Byte)
  | writeY (w : Byte)
  | writeS (w : Byte)
  | writePC (w : Word)
  | writeFlag (flag : Flag) (f : Bool)
  | writeStatus (w : Byte)
  | pokeMemory (addr : Word) (w : Byte)
  | setRegions (regions : List Region)
deriving DecidableEq, Repr

/-- One flag written, no other effect (R31). -/
def State.writeFlag (flag : Flag) (f : Bool) (s : State) : State :=
  match flag with
  | .c => s.setC f
  | .z => s.setZ f
  | .i => s.setI f
  | .d => s.setD f
  | .b => s.setB f
  | .v => s.setV f
  | .n => s.setN f

/-- One flag read (R31). -/
def State.readFlag (flag : Flag) (s : State) : Bool :=
  match flag with
  | .c => s.c
  | .z => s.z
  | .i => s.i
  | .d => s.d
  | .b => s.b
  | .v => s.v
  | .n => s.n

/-- The NMI line set to a level: a 0 to 1 transition arms the latch, nothing else does (R23). -/
def State.driveNmi (level : Bool) (s : State) : State :=
  { s with nmiPending := s.nmiPending || (level && !s.nmiLine), nmiLine := level }

/-- A host action (R21 to R25, R31). It ticks no cycle. -/
def applyHost (act : HostAction) (s : State) : State :=
  match act with
  | .setResetLine level => { s with resetLine := level }
  | .setIrqLine level => { s with irqLine := level }
  | .setNmiLine level => s.driveNmi level
  | .triggerNmi => { s with nmiPending := true }
  | .setPolicy policy => { s with policy := policy }
  | .writeA w => s.setA w
  | .writeX w => s.setX w
  | .writeY w => s.setY w
  | .writeS w => s.setSP w
  | .writePC w => s.setPC w
  | .writeFlag flag f => s.writeFlag flag f
  | .writeStatus w => s.unpack w
  | .pokeMemory addr w => s.poke addr w
  | .setRegions regions => { s with regions := regions }

/-- The state an error leaves (20_memory.md R44). -/
def Fault.left : Fault → State
  | .memoryFault _ left => left
  | .invalidOpcode _ _ left => left

/-- The state the host finds after a call (40_step_and_dispatch.md R103): after an error it may go on from what the
error left; a refusal has no defined successor. -/
def stateAfter (r : Result State) : Option State :=
  match r with
  | .next t => some t
  | .fault f => some f.left
  | .refused _ => none

/-- What `Step` returns (R96): the amount by which CYC grew; nothing when it raises. -/
def stepReturn (s : State) : Option Cycles :=
  match step s with
  | .next t => some (t.cyc - s.cyc)
  | .fault _ => none
  | .refused _ => none

/-- `Run(n)` (R97) with at most `fuel` steps: the total returned and the state, or where it stopped. `none` is a run
the fuel did not suffice for (R102; log 17). -/
def runFrom (fuel total n : Nat) (s : State) : Option (Result (Nat × State)) :=
  if n ≤ total then some (.next (total, s))
  else
    match fuel with
    | 0 => none
    | fuel + 1 =>
      match step s with
      | .next t => runFrom fuel (total + (t.cyc - s.cyc).toNat) n t
      | .fault f => some (.fault f)
      | .refused f => some (.refused f)

/-- `Run(n)` (R97). -/
def run (fuel n : Nat) (s : State) : Option (Result (Nat × State)) := runFrom fuel 0 n s

/-- Every transition of the model: a step, `Reset()`, or a host action between the two (R7). -/
inductive Transition
  | step
  | reset
  | host (act : HostAction)
deriving DecidableEq, Repr

/-- One transition. -/
def transition (t : Transition) (s : State) : Result State :=
  match t with
  | .step => step s
  | .reset => engineReset s
  | .host act => .next (applyHost act s)

end Sys2Proof.Machine
end

