-- ==== Sys2Proof/Safety.lean ====
section
/-! DEFINITION. The terms statements use: when a step is undisturbed, which accesses land on plain memory, and what
a safe run is. -/

namespace Sys2Proof.Machine

/-- No halt and no interrupt stands before the next fetch (40_step_and_dispatch.md R90). -/
def State.quiet (s : State) : Bool := !s.resetLine && !s.nmiPending && !(s.irqLine && !s.i)

/-- The `k` bytes memory holds from an address on, modulo 65,536. -/
def State.bytesFrom (s : State) (addr : Word) : Nat → List Byte
  | 0 => []
  | k + 1 => s.peek addr :: s.bytesFrom (addr + 1) k

/-- The `k` addresses from an address on are readable plain memory. -/
def State.readableFrom (s : State) (addr : Word) : Nat → Bool
  | 0 => true
  | k + 1 => s.readable addr && s.readableFrom (addr + 1) k

/-- A read of the address is refused by the bus: `read` answers no value (20_memory.md R41). -/
def State.refusesRead (s : State) (addr : Word) : Bool :=
  decide (s.kindAt addr = .writeOnly) || decide (s.kindAt addr = .absent)

/-- A write of the address is refused by the bus: `write` answers false (R42). -/
def State.refusesWrite (s : State) (addr : Word) : Bool :=
  decide (s.kindAt addr = .rom) || decide (s.kindAt addr = .absent)

/-- The next `k` pushes land on plain memory that accepts them. -/
def State.pushReady (s : State) : Nat → Bool
  | 0 => true
  | k + 1 => s.writable (stackAddr s.sp) && (s.setSP (s.sp - 1)).pushReady k

/-- The next `k` pulls land on readable plain memory. -/
def State.pullReady (s : State) : Nat → Bool
  | 0 => true
  | k + 1 => s.readable (stackAddr (s.sp + 1)) && (s.setSP (s.sp + 1)).pullReady k

/-- Both bytes of a vector are readable plain memory. -/
def State.vectorReady (s : State) (vector : Word) : Bool := s.readable vector && s.readable (vector + 1)

/-- The word memory holds at an address, low byte first (20_memory.md R45). -/
def State.peekWord (s : State) (addr : Word) : Word := s.peekPair addr (addr + 1)

/-- A memory with a list of writes made, the first first. -/
def State.pokes (writes : List (Word × Byte)) (s : State) : State :=
  writes.foldl (fun t p => t.poke p.1 p.2) s

/-- The outcome is a next state. -/
def completes (r : Result State) : Bool :=
  match r with
  | .next _ => true
  | .fault _ => false
  | .refused _ => false

/-- The state after `k` whole steps, where each of them answers a next state (40_step_and_dispatch.md R97). -/
def afterSteps (k : Nat) (s : State) : Option State :=
  match k with
  | 0 => some s
  | k + 1 =>
    match step s with
    | .next t => afterSteps k t
    | .fault _ => none
    | .refused _ => none

/-- A run of `k` steps with no error and no refusal. -/
def safeRun (k : Nat) (s : State) : Bool := (afterSteps k s).isSome

/-- Row 0x of the map as printed. -/
def printedRow0 : List (Option (String × Mode)) :=
  [some ("BRK", .imp), some ("ORA", .izx), none, none,
   none, some ("ORA", .zp), some ("ASL", .zp), none,
   some ("PHP", .imp), some ("ORA", .imm), some ("ASL", .acc), none,
   none, some ("ORA", .abs), some ("ASL", .abs), none]

/-- Row 1x of the map as printed. -/
def printedRow1 : List (Option (String × Mode)) :=
  [some ("BPL", .rel), some ("ORA", .izy), none, none,
   none, some ("ORA", .zpx), some ("ASL", .zpx), none,
   some ("CLC", .imp), some ("ORA", .aby), none, none,
   none, some ("ORA", .abx), some ("ASL", .abx), none]

/-- Row 2x of the map as printed. -/
def printedRow2 : List (Option (String × Mode)) :=
  [some ("JSR", .abs), some ("AND", .izx), none, none,
   some ("BIT", .zp), some ("AND", .zp), some ("ROL", .zp), none,
   some ("PLP", .imp), some ("AND", .imm), some ("ROL", .acc), none,
   some ("BIT", .abs), some ("AND", .abs), some ("ROL", .abs), none]

/-- Row 3x of the map as printed. -/
def printedRow3 : List (Option (String × Mode)) :=
  [some ("BMI", .rel), some ("AND", .izy), none, none,
   none, some ("AND", .zpx), some ("ROL", .zpx), none,
   some ("SEC", .imp), some ("AND", .aby), none, none,
   none, some ("AND", .abx), some ("ROL", .abx), none]

/-- Row 4x of the map as printed. -/
def printedRow4 : List (Option (String × Mode)) :=
  [some ("RTI", .imp), some ("EOR", .izx), none, none,
   none, some ("EOR", .zp), some ("LSR", .zp), none,
   some ("PHA", .imp), some ("EOR", .imm), some ("LSR", .acc), none,
   some ("JMP", .abs), some ("EOR", .abs), some ("LSR", .abs), none]

/-- Row 5x of the map as printed. -/
def printedRow5 : List (Option (String × Mode)) :=
  [some ("BVC", .rel), some ("EOR", .izy), none, none,
   none, some ("EOR", .zpx), some ("LSR", .zpx), none,
   some ("CLI", .imp), some ("EOR", .aby), none, none,
   none, some ("EOR", .abx), some ("LSR", .abx), none]

/-- Row 6x of the map as printed. -/
def printedRow6 : List (Option (String × Mode)) :=
  [some ("RTS", .imp), some ("ADC", .izx), none, none,
   none, some ("ADC", .zp), some ("ROR", .zp), none,
   some ("PLA", .imp), some ("ADC", .imm), some ("ROR", .acc), none,
   some ("JMP", .ind), some ("ADC", .abs), some ("ROR", .abs), none]

/-- Row 7x of the map as printed. -/
def printedRow7 : List (Option (String × Mode)) :=
  [some ("BVS", .rel), some ("ADC", .izy), none, none,
   none, some ("ADC", .zpx), some ("ROR", .zpx), none,
   some ("SEI", .imp), some ("ADC", .aby), none, none,
   none, some ("ADC", .abx), some ("ROR", .abx), none]

/-- Row 8x of the map as printed. -/
def printedRow8 : List (Option (String × Mode)) :=
  [none, some ("STA", .izx), none, none,
   some ("STY", .zp), some ("STA", .zp), some ("STX", .zp), none,
   some ("DEY", .imp), none, some ("TXA", .imp), none,
   some ("STY", .abs), some ("STA", .abs), some ("STX", .abs), none]

/-- Row 9x of the map as printed. -/
def printedRow9 : List (Option (String × Mode)) :=
  [some ("BCC", .rel), some ("STA", .izy), none, none,
   some ("STY", .zpx), some ("STA", .zpx), some ("STX", .zpy), none,
   some ("TYA", .imp), some ("STA", .aby), some ("TXS", .imp), none,
   none, some ("STA", .abx), none, none]

/-- Row Ax of the map as printed. -/
def printedRowA : List (Option (String × Mode)) :=
  [some ("LDY", .imm), some ("LDA", .izx), some ("LDX", .imm), none,
   some ("LDY", .zp), some ("LDA", .zp), some ("LDX", .zp), none,
   some ("TAY", .imp), some ("LDA", .imm), some ("TAX", .imp), none,
   some ("LDY", .abs), some ("LDA", .abs), some ("LDX", .abs), none]

/-- Row Bx of the map as printed. -/
def printedRowB : List (Option (String × Mode)) :=
  [some ("BCS", .rel), some ("LDA", .izy), none, none,
   some ("LDY", .zpx), some ("LDA", .zpx), some ("LDX", .zpy), none,
   some ("CLV", .imp), some ("LDA", .aby), some ("TSX", .imp), none,
   some ("LDY", .abx), some ("LDA", .abx), some ("LDX", .aby), none]

/-- Row Cx of the map as printed. -/
def printedRowC : List (Option (String × Mode)) :=
  [some ("CPY", .imm), some ("CMP", .izx), none, none,
   some ("CPY", .zp), some ("CMP", .zp), some ("DEC", .zp), none,
   some ("INY", .imp), some ("CMP", .imm), some ("DEX", .imp), none,
   some ("CPY", .abs), some ("CMP", .abs), some ("DEC", .abs), none]

/-- Row Dx of the map as printed. -/
def printedRowD : List (Option (String × Mode)) :=
  [some ("BNE", .rel), some ("CMP", .izy), none, none,
   none, some ("CMP", .zpx), some ("DEC", .zpx), none,
   some ("CLD", .imp), some ("CMP", .aby), none, none,
   none, some ("CMP", .abx), some ("DEC", .abx), none]

/-- Row Ex of the map as printed. -/
def printedRowE : List (Option (String × Mode)) :=
  [some ("CPX", .imm), some ("SBC", .izx), none, none,
   some ("CPX", .zp), some ("SBC", .zp), some ("INC", .zp), none,
   some ("INX", .imp), some ("SBC", .imm), some ("NOP", .imp), none,
   some ("CPX", .abs), some ("SBC", .abs), some ("INC", .abs), none]

/-- Row Fx of the map as printed. -/
def printedRowF : List (Option (String × Mode)) :=
  [some ("BEQ", .rel), some ("SBC", .izy), none, none,
   none, some ("SBC", .zpx), some ("INC", .zpx), none,
   some ("SED", .imp), some ("SBC", .aby), none, none,
   none, some ("SBC", .abx), some ("INC", .abx), none]

/-- The opcode map as 30_encoding.md R76 prints it, written out a second time, apart from the decoder: row by the high
digit, column by the low digit, `none` for a cell that reads `-`. -/
def printedOpcodeMap : List (List (Option (String × Mode))) :=
  [printedRow0, printedRow1, printedRow2, printedRow3, printedRow4, printedRow5, printedRow6, printedRow7,
   printedRow8, printedRow9, printedRowA, printedRowB, printedRowC, printedRowD, printedRowE, printedRowF]

/-- The cell of the printed map for an opcode byte. -/
def printedCell (opcode : Byte) : Option (String × Mode) :=
  (printedOpcodeMap.getD (opcode.toNat / 16) []).getD (opcode.toNat % 16) none

/-- An outcome with the policy of the state it carries replaced. -/
def withPolicy (policy : Policy) (r : Result State) : Result State :=
  match r with
  | .next t => .next { t with policy := policy }
  | .fault (.memoryFault addr left) => .fault (.memoryFault addr { left with policy := policy })
  | .fault (.invalidOpcode addr opcode left) => .fault (.invalidOpcode addr opcode { left with policy := policy })
  | .refused f => .refused f

/-- What no step may change: the input lines, the policy, the parameters and the region map (10_state.md R21, R22,
R25; 60_exceptions.md R233). -/
structure SameOutside (s t : State) : Prop where
  resetLine : t.resetLine = s.resetLine
  irqLine : t.irqLine = s.irqLine
  nmiLine : t.nmiLine = s.nmiLine
  policy : t.policy = s.policy
  cfg : t.cfg = s.cfg
  regions : t.regions = s.regions

end Sys2Proof.Machine
end

