-- ==== Sys2Proof/Certificates/Slice0/Obligations.lean ====
section
/-! DEFINITION. The statements for the provers. `exec i s` runs an instruction whose bytes the step has fetched, so
`s.pc` is one past them (StepRunsDecodedInstruction). Addresses and values are written with integers where the spec
writes them so. What stands behind an address (`readable`, `writable`, `kindAt`) is the model's region map (log 7). -/

open Sys2Proof Sys2Proof.Machine

/-! ## Encoding -/

/-- Every bit of every encoding is read back, and nothing past the instruction is (30_encoding.md R70 to R73). -/
def Obligations.DecodeInvertsEncode : Prop :=
  ∀ (i : Instr) (rest : List Byte), decode (encode i ++ rest) = .ok i rest

/-- Where bytes stand, every one of them has one meaning (30_encoding.md R70, R74, R78). -/
def Obligations.EncodeInvertsDecode : Prop :=
  ∀ bytes : List Byte,
    (∀ i rest, decode bytes = .ok i rest → encode i ++ rest = bytes) ∧
    (decode bytes = .noOpcode ↔ bytes = []) ∧
    (∀ opcode, decode bytes = .missingOperand opcode ↔
      bytes.head? = some opcode ∧ bytes.length < lengthOf opcode)

/-- 30_encoding.md R76, R77: the map by high and low digit, and the list of the 105 others. -/
def Obligations.OpcodeMapIsThePrintedOne : Prop :=
  ∀ (opcode : Byte) (bytes rest : List Byte) (i : Instr), decode (opcode :: bytes) = .ok i rest →
    (match printedCell opcode with
      | some (name, mode) => i.mnemonic = name ∧ i.mode = some mode
      | none => i.form = .unassigned opcode) ∧
    (opcode ∈ unassignedOpcodes ↔ printedCell opcode = none) ∧ unassignedOpcodes.length = 105

/-- 30_encoding.md R72. -/
def Obligations.LengthFollowsMode : Prop :=
  ∀ i : Instr,
    (encode i).head? = some i.opcode ∧ modeOf i.opcode = i.mode ∧ lengthOf i.opcode = (encode i).length ∧
    (encode i).length =
      match i.mode with
      | none | some .imp | some .acc => 1
      | some .imm | some .zp | some .zpx | some .zpy | some .izx | some .izy | some .rel => 2
      | some .abs | some .abx | some .aby | some .ind => 3

/-- A sanity statement over words written out from 30_encoding.md R73, R76, R80. -/
def Obligations.SampleWordsDecode : Prop :=
  decode [0xA9, 0x10] = .ok (.ldaImm 0x10) [] ∧ decode [0xBD, 0xFF, 0x30] = .ok (.ldaAbx 0x30FF) [] ∧
  decode [0xB6, 0x10] = .ok (.ldxZpy 0x10) [] ∧ decode [0x8D, 0x00, 0x02] = .ok (.staAbs 0x0200) [] ∧
  decode [0x61, 0x20] = .ok (.adcIzx 0x20) [] ∧ decode [0xF1, 0x86] = .ok (.sbcIzy 0x86) [] ∧
  decode [0x2C, 0x34, 0x12] = .ok (.bitAbs 0x1234) [] ∧ decode [0x0A] = .ok .aslAcc [] ∧
  decode [0x7E, 0x34, 0x12] = .ok (.rorAbx 0x1234) [] ∧ decode [0x48] = .ok .phaImp [] ∧
  decode [0xF0, 0x10] = .ok (.beqRel 0x10) [] ∧ decode [0x6C, 0xFF, 0x30] = .ok (.jmpInd 0x30FF) [] ∧
  decode [0x20, 0x00, 0xC0] = .ok (.jsrAbs 0xC000) [] ∧ decode [0x00, 0x55] = .ok .brkImp [0x55] ∧
  decode [0x02] = .ok .unassigned02 []

/-! ## The step -/

/-- 40_step_and_dispatch.md R90, R93 to R95, 41_addressing_modes.md R111, R127: what the step adds around `exec`. -/
def Obligations.StepRunsDecodedInstruction : Prop :=
  ∀ (s t : State) (i : Instr) (rest : List Byte),
    s.resetLine = false → pollInterrupts s = .next t →
    decode (t.bytesFrom t.pc 3) = .ok i rest → t.readableFrom t.pc (encode i).length = true →
    step s = exec i { t with
      pc := t.pc + BitVec.ofNat 16 (encode i).length,
      cyc := t.cyc + BitVec.ofNat 64 ((encode i).length +
        if i.mode = none then 0 else internalCycles t.cfg i.opcode) } ∧
    (s.quiet = true → t = s)

/-- 40_step_and_dispatch.md R91. -/
def Obligations.ResetLineHaltsTheStep : Prop :=
  ∀ s : State, s.resetLine = true →
    step s = .next s ∧ stepReturn s = some 0 ∧
    applyHost (.setResetLine false) s = { s with resetLine := false }

/-- 40_step_and_dispatch.md R98 to R101, at `exec`: PC is already past the opcode byte. The model's choice: the fault
mark (log 9), the refusal mark (log 10). -/
def Obligations.UnassignedOpcodeByPolicy : Prop :=
  ∀ (i : Instr) (opcode : Byte) (s : State), i.form = .unassigned opcode →
    (s.policy = .treatAsNop → exec i s = .next { s with cyc := s.cyc + 1 }) ∧
    (s.policy = .throwException →
      exec i s = .fault (.invalidOpcode (s.pc - 1) opcode { s with faultMark := true })) ∧
    (s.policy = .emulateHardwareBehavior →
      exec i s = .refused (.emulateHardwareBehavior (s.pc - 1) opcode { s with refusalMark := true }))

/-- 40_step_and_dispatch.md R98 to R100; the third clause is R101. The marks are the model's choice (logs 9, 10). -/
def Obligations.StepFollowsThePolicy : Prop :=
  ∀ (s t u : State) (opcode : Byte),
    s.resetLine = false → pollInterrupts s = .next t → memRead t.pc t = .next (opcode, u) →
    opcode ∈ unassignedOpcodes →
    (t.policy = .throwException →
      step s = .fault (.invalidOpcode t.pc opcode { u with pc := t.pc + 1, faultMark := true })) ∧
    (t.policy = .treatAsNop → step s = .next { u with pc := t.pc + 1, cyc := u.cyc + 1 }) ∧
    (t.policy = .emulateHardwareBehavior →
      step s = .refused (.emulateHardwareBehavior t.pc opcode { u with pc := t.pc + 1, refusalMark := true }))

/-- 10_state.md R25 and 40_step_and_dispatch.md R98: the policy is read on an unassigned opcode and nowhere else. -/
def Obligations.PolicyMattersOnlyOnUnassigned : Prop :=
  ∀ (i : Instr) (s : State) (policy : Policy), i.mode ≠ none →
    exec i { s with policy := policy } = withPolicy policy (exec i s)

/-- 40_step_and_dispatch.md R93, 41_addressing_modes.md R111, R114, 60_exceptions.md R231. The model's choice: the
fault mark (log 9). -/
def Obligations.RefusedFetchStopsTheStep : Prop :=
  ∀ s : State, s.quiet = true →
    (s.refusesRead s.pc = true → step s = .fault (.memoryFault s.pc { s with faultMark := true })) ∧
    (∀ mode, s.readable s.pc = true → modeOf (s.peek s.pc) = some mode → 2 ≤ mode.length →
      s.refusesRead (s.pc + 1) = true →
      step s = .fault (.memoryFault (s.pc + 1) { s with
        pc := if mode = .imm then s.pc + 2 else s.pc + 1,
        cyc := s.cyc + BitVec.ofNat 64 (1 + internalCycles s.cfg (s.peek s.pc)), faultMark := true })) ∧
    (∀ mode, s.readable s.pc = true → modeOf (s.peek s.pc) = some mode → mode.length = 3 →
      s.readable (s.pc + 1) = true → s.refusesRead (s.pc + 2) = true →
      step s = .fault (.memoryFault (s.pc + 2) { s with
        pc := s.pc + 2,
        cyc := s.cyc + BitVec.ofNat 64 (2 + internalCycles s.cfg (s.peek s.pc)), faultMark := true }))

/-- 70_reset_and_hazards.md R281, the table by class and mode; 10_state.md R20 ("one `Step` adds at most 14") and
40_step_and_dispatch.md R96 ("at least 1"). -/
def Obligations.StepCostsOneToFourteenCycles : Prop :=
  (∀ (cfg : Config) (i : Instr), cfg.internalOverride = [] → i.mode ≠ none →
    internalCycles cfg i.opcode = match i.form with
      | .read _ (.imm _) => 0
      | .read _ (.mem (.zpx _)) | .read _ (.mem (.zpy _)) | .read _ (.mem (.izx _)) => 1
      | .read _ (.mem _) => 0
      | .store _ (.zpx _) | .store _ (.zpy _) | .store _ (.izx _) => 1
      | .store _ _ => 0
      | .modifyAcc _ => 1
      | .modify _ (.zpx _) => 2
      | .modify _ _ => 1
      | .branch _ _ => 0
      | .jump _ => 0
      | .call _ => 1
      | .implied .pla | .implied .plp | .implied .rti => 2
      | .implied .rts => 3
      | .implied _ => 1
      | .unassigned _ => 0) ∧
  (∀ (cfg : Config) (opcode : Byte) (k : Nat), cfg.internalOverride = [(opcode.toNat, k)] →
    ∀ other, internalCycles cfg other = if other = opcode then k else internalCycles Config.default other) ∧
  ∀ s t : State, s.cfg.internalOverride = [] → s.resetLine = false → step s = .next t →
    ∃ k : Nat, 1 ≤ k ∧ k ≤ 14 ∧ t.cyc = s.cyc + BitVec.ofNat 64 k

/-- 40_step_and_dispatch.md R97, R102. The bound `fuel` is the model's choice (log 17), CYC wraps by log 14. -/
def Obligations.RunReturnsAtLeastWhatWasAsked : Prop :=
  (∀ (fuel : Nat) (s : State), run fuel 0 s = some (.next (0, s))) ∧
  (∀ (fuel n : Nat) (s : State), 0 < n →
    run 0 n s = none ∧
    (∀ t, step s = .next t →
      let k := (t.cyc - s.cyc).toNat
      run (fuel + 1) n s = match run fuel (n - k) t with
        | some (.next (total, u)) => some (.next (k + total, u))
        | some (.fault f) => some (.fault f)
        | some (.refused f) => some (.refused f)
        | none => none) ∧
    (∀ f, step s = .fault f → run (fuel + 1) n s = some (.fault f)) ∧
    (∀ f, step s = .refused f → run (fuel + 1) n s = some (.refused f))) ∧
  (∀ (fuel n total : Nat) (s t : State), run fuel n s = some (.next (total, t)) →
    n ≤ total ∧ t.cyc = s.cyc + BitVec.ofNat 64 total ∧ ∃ k, k ≤ fuel ∧ afterSteps k s = some t) ∧
  (∀ (fuel n : Nat) (s : State) (f : Fault), run fuel n s = some (.fault f) →
    ∃ k u, k < fuel ∧ afterSteps k s = some u ∧ step u = .fault f) ∧
  (∀ (fuel n : Nat) (s : State) (f : Refusal), run fuel n s = some (.refused f) →
    ∃ k u, k < fuel ∧ afterSteps k s = some u ∧ step u = .refused f) ∧
  (∀ (fuel n : Nat) (s : State), s.resetLine = true → 0 < n → run fuel n s = none)

/-! ## Interrupts, BRK and RTI -/

/-- 60_exceptions.md R234, R236 to R240. -/
def Obligations.NmiIsAnsweredFirstAndOnce : Prop :=
  ∀ s : State, s.nmiPending = true →
    (s.pushReady 3 = true → s.vectorReady 0xFFFA = true →
      pollInterrupts s = .next
        (let u := s.pokes [(stackAddr s.sp, hiByte (s.pc)), (stackAddr (s.sp - 1), loByte (s.pc)),
          (stackAddr (s.sp - 2), s.statusByte false)]
         { u with nmiPending := false, sp := s.sp - 3, i := true, b := if s.cfg.bWriteback then false else s.b,
                  pc := word (u.peek 0xFFFB) (u.peek 0xFFFA), cyc := s.cyc + 7 })) ∧
    (∀ t, pollInterrupts s = .next t → t.nmiPending = false ∧ t.i = true ∧ pollInterrupts t = .next t) ∧
    (∀ f, pollInterrupts s = .fault f → f.left.nmiPending = false)

/-- 60_exceptions.md R235, R236, R238 to R240. -/
def Obligations.IrqIsAnsweredWhenUnmasked : Prop :=
  ∀ s : State, s.nmiPending = false →
    (s.irqLine = true → s.i = false → s.pushReady 3 = true → s.vectorReady 0xFFFE = true →
      pollInterrupts s = .next
        (let u := s.pokes [(stackAddr s.sp, hiByte (s.pc)), (stackAddr (s.sp - 1), loByte (s.pc)),
          (stackAddr (s.sp - 2), s.statusByte false)]
         { u with sp := s.sp - 3, i := true, b := if s.cfg.bWriteback then false else s.b,
                  pc := word (u.peek 0xFFFF) (u.peek 0xFFFE), cyc := s.cyc + 7 })) ∧
    (s.irqLine = false ∨ s.i = true → pollInterrupts s = .next s)

/-- 46_control_flow.md R222, 60_exceptions.md R238, R239, 30_encoding.md R82. -/
def Obligations.BrkEntersTheHandler : Prop :=
  encode .brkImp = [0x00] ∧
  ∀ s : State, s.pushReady 3 = true → s.vectorReady 0xFFFE = true →
    exec .brkImp s = .next
      (let u := s.pokes [(stackAddr s.sp, hiByte (s.pc + 1)), (stackAddr (s.sp - 1), loByte (s.pc + 1)),
        (stackAddr (s.sp - 2), s.statusByte true)]
       { u with sp := s.sp - 3, i := true, b := if s.cfg.bWriteback then true else s.b,
                pc := word (u.peek 0xFFFF) (u.peek 0xFFFE), cyc := s.cyc + 5 })

/-- 60_exceptions.md R245. The mark in each state left is the model's choice (log 9). -/
def Obligations.RefusedTrapEntryIsHalfDone : Prop :=
  (∀ s : State, s.nmiPending = true →
    pollInterrupts s = trapEntry 0xFFFA false { s with nmiPending := false, cyc := s.cyc + 2 }) ∧
  (∀ s : State, s.nmiPending = false → s.irqLine = true → s.i = false →
    pollInterrupts s = trapEntry 0xFFFE false { s with cyc := s.cyc + 2 }) ∧
  (∀ s : State, exec .brkImp s = trapEntry 0xFFFE true { s with pc := s.pc + 1 }) ∧
  ∀ (vector : Word) (forced : Bool) (s : State),
    let high := (stackAddr s.sp, hiByte s.pc)
    let low := (stackAddr (s.sp - 1), loByte s.pc)
    let status := (stackAddr (s.sp - 2), s.statusByte forced)
    let b := if s.cfg.bWriteback then forced else s.b
    (s.refusesWrite (stackAddr s.sp) = true →
      trapEntry vector forced s = .fault (.memoryFault (stackAddr s.sp) { s with faultMark := true })) ∧
    (s.pushReady 1 = true → s.refusesWrite (stackAddr (s.sp - 1)) = true →
      trapEntry vector forced s = .fault (.memoryFault (stackAddr (s.sp - 1)) { s.pokes [high] with
        sp := s.sp - 1, cyc := s.cyc + 1, faultMark := true })) ∧
    (s.pushReady 2 = true → s.refusesWrite (stackAddr (s.sp - 2)) = true →
      trapEntry vector forced s = .fault (.memoryFault (stackAddr (s.sp - 2)) { s.pokes [high, low] with
        sp := s.sp - 2, cyc := s.cyc + 2, faultMark := true })) ∧
    (s.pushReady 3 = true → s.refusesRead vector = true →
      trapEntry vector forced s = .fault (.memoryFault vector { s.pokes [high, low, status] with
        sp := s.sp - 3, i := true, b := b, cyc := s.cyc + 3, faultMark := true })) ∧
    (s.pushReady 3 = true → s.readable vector = true → s.refusesRead (vector + 1) = true →
      trapEntry vector forced s = .fault (.memoryFault (vector + 1) { s.pokes [high, low, status] with
        sp := s.sp - 3, i := true, b := b, cyc := s.cyc + 4, faultMark := true }))

/-- 46_control_flow.md R223. The mark in each state left is the model's choice (log 9). -/
def Obligations.RtiRestoresFlagsAndPc : Prop :=
  encode .rtiImp = [0x40] ∧
  ∀ s : State,
    (∀ v t, pull s = .next (v, t) →
      (∀ w u, pull16 (t.unpack v) = .next (w, u) → exec .rtiImp s = .next { u with pc := w }) ∧
      (∀ f, pull16 (t.unpack v) = .fault f → exec .rtiImp s = .fault f)) ∧
    (∀ f, pull s = .fault f → exec .rtiImp s = .fault f) ∧
    let p := s.peek (stackAddr (s.sp + 1))
    let flags : State := { s with
      n := p.getLsbD 7, v := p.getLsbD 6, b := p.getLsbD 4, d := p.getLsbD 3, i := p.getLsbD 2,
      z := p.getLsbD 1, c := p.getLsbD 0 }
    (s.pullReady 3 = true →
      exec .rtiImp s = .next { flags with
        sp := s.sp + 3, pc := word (s.peek (stackAddr (s.sp + 3))) (s.peek (stackAddr (s.sp + 2))),
        cyc := s.cyc + 3 }) ∧
    (s.refusesRead (stackAddr (s.sp + 1)) = true →
      exec .rtiImp s = .fault (.memoryFault (stackAddr (s.sp + 1)) { s with sp := s.sp + 1, faultMark := true })) ∧
    (s.pullReady 1 = true → s.refusesRead (stackAddr (s.sp + 2)) = true →
      exec .rtiImp s = .fault (.memoryFault (stackAddr (s.sp + 2)) { flags with
        sp := s.sp + 2, cyc := s.cyc + 1, faultMark := true })) ∧
    (s.pullReady 2 = true → s.refusesRead (stackAddr (s.sp + 3)) = true →
      exec .rtiImp s = .fault (.memoryFault (stackAddr (s.sp + 3)) { flags with
        sp := s.sp + 3, cyc := s.cyc + 2, faultMark := true }))

/-- The round trip of 46_control_flow.md R222, R223 and 60_exceptions.md R242 (95_test_vectors.md S7), as two steps.
-/
def Obligations.BrkThenRtiRestores : Prop :=
  ∀ s : State, s.quiet = true → s.readable s.pc = true → s.peek s.pc = 0x00 →
    Memory.wf s.mem = true → s.pushReady 3 = true → (s.setSP (s.sp - 3)).pullReady 3 = true →
    s.vectorReady 0xFFFE = true → s.readable (s.peekWord 0xFFFE) = true → s.peek (s.peekWord 0xFFFE) = 0x40 →
    s.peekWord 0xFFFE ∉ [stackAddr s.sp, stackAddr (s.sp - 1), stackAddr (s.sp - 2)] →
    ∃ t u, step s = .next t ∧ step t = .next u ∧
      t.pc = s.peekWord 0xFFFE ∧ t.i = true ∧ t.sp = s.sp - 3 ∧
      u.pc = s.pc + 2 ∧ u.sp = s.sp ∧ u.a = s.a ∧ u.x = s.x ∧ u.y = s.y ∧
      u.n = s.n ∧ u.v = s.v ∧ u.d = s.d ∧ u.i = s.i ∧ u.z = s.z ∧ u.c = s.c ∧ u.b = true

/-- 60_exceptions.md R237, R242, R244. -/
def Obligations.InterruptThenRtiRestores : Prop :=
  ∀ (s : State) (vector : Word),
    (s.nmiPending = true ∧ vector = 0xFFFA ∨
      s.nmiPending = false ∧ s.irqLine = true ∧ s.i = false ∧ vector = 0xFFFE) →
    s.resetLine = false →
    Memory.wf s.mem = true → s.pushReady 3 = true → (s.setSP (s.sp - 3)).pullReady 3 = true →
    s.vectorReady vector = true → s.readable (s.peekWord vector) = true → s.peek (s.peekWord vector) = 0x40 →
    s.peekWord vector ∉ [stackAddr s.sp, stackAddr (s.sp - 1), stackAddr (s.sp - 2)] →
    ∃ u, step s = .next u ∧ SameOutside s u ∧ u.nmiPending = false ∧
      u.pc = s.pc ∧ u.sp = s.sp ∧ u.a = s.a ∧ u.x = s.x ∧ u.y = s.y ∧
      u.n = s.n ∧ u.v = s.v ∧ u.d = s.d ∧ u.i = s.i ∧ u.z = s.z ∧ u.c = s.c ∧ u.b = false ∧
      Memory.wf u.mem = true ∧
      (∀ addr, addr ∉ [stackAddr s.sp, stackAddr (s.sp - 1), stackAddr (s.sp - 2)] → u.peek addr = s.peek addr) ∧
      (vector = 0xFFFE → ∀ k, ∃ w, afterSteps k s = some w ∧
        w.pc = s.pc ∧ w.sp = s.sp ∧ w.i = false ∧ w.irqLine = true)

/-! ## Reset and the host -/

/-- 70_reset_and_hazards.md R260, R263. The mark in each state left is the model's choice (log 9). -/
def Obligations.EngineResetEffects : Prop :=
  ∀ s : State,
    (s.vectorReady 0xFFFC = true →
      engineReset s = .next { s with
        i := true, pc := word (s.peek 0xFFFD) (s.peek 0xFFFC), cyc := s.cyc + 7 }) ∧
    (s.refusesRead 0xFFFC = true →
      engineReset s = .fault (.memoryFault 0xFFFC { s with i := true, cyc := s.cyc + 5, faultMark := true })) ∧
    (s.readable 0xFFFC = true → s.refusesRead 0xFFFD = true →
      engineReset s = .fault (.memoryFault 0xFFFD { s with i := true, cyc := s.cyc + 6, faultMark := true }))

/-- The values of `State.init` are the model's (logs 1, 2, 3); what `Reset()` does to them is R260. -/
def Obligations.ResetStateFollowsFromInit : Prop :=
  engineReset State.init = .next State.reset ∧ Memory.wf State.reset.mem = true ∧ State.reset.quiet = true

/-- 10_state.md R23, R24. -/
def Obligations.NmiEdgeArmsTheLatch : Prop :=
  ∀ s : State,
    (∀ level, applyHost (.setNmiLine level) s =
      { s with nmiLine := level, nmiPending := if level = true ∧ s.nmiLine = false then true else s.nmiPending }) ∧
    applyHost .triggerNmi s = { s with nmiPending := true } ∧
    (s.nmiLine = false →
      applyHost (.setNmiLine false) (applyHost (.setNmiLine true) s) = applyHost .triggerNmi s ∧
      applyHost (.setNmiLine true) (applyHost (.setNmiLine false) (applyHost (.setNmiLine true) s)) =
        applyHost (.setNmiLine true) s) ∧
    (∀ act, (applyHost act s).nmiPending ≠ s.nmiPending →
      s.nmiPending = false ∧ (act = .triggerNmi ∨ act = .setNmiLine true ∧ s.nmiLine = false)) ∧
    (∀ act, (applyHost act s).nmiLine ≠ s.nmiLine → ∃ level, act = .setNmiLine level) ∧
    (∀ t, pollInterrupts s = .next t → t.nmiPending = false)

/-- 10_state.md R31, R21, R22, R25. Memory and the region map are the model's form of the bus (logs 7, 13). -/
def Obligations.HostReadsAndWritesRegisters : Prop :=
  ∀ s : State,
    (∀ w, applyHost (.writeA w) s = { s with a := w }) ∧ (∀ w, applyHost (.writeX w) s = { s with x := w }) ∧
    (∀ w, applyHost (.writeY w) s = { s with y := w }) ∧ (∀ w, applyHost (.writeS w) s = { s with sp := w }) ∧
    (∀ w, applyHost (.writePC w) s = { s with pc := w }) ∧
    (∀ w, applyHost (.writeStatus w) s = { s with
      n := w.getLsbD 7, v := w.getLsbD 6, b := w.getLsbD 4, d := w.getLsbD 3, i := w.getLsbD 2,
      z := w.getLsbD 1, c := w.getLsbD 0 } ∧ (applyHost (.writeStatus w) s).packed = w ||| 0x20) ∧
    (∀ flag other f, (applyHost (.writeFlag flag f) s).readFlag other = if other = flag then f else s.readFlag other) ∧
    (∀ flag f, ∃ c z i d b v n, applyHost (.writeFlag flag f) s =
      { s with c := c, z := z, i := i, d := d, b := b, v := v, n := n }) ∧
    (∀ level, applyHost (.setResetLine level) s = { s with resetLine := level }) ∧
    (∀ level, applyHost (.setIrqLine level) s = { s with irqLine := level }) ∧
    (∀ policy, applyHost (.setPolicy policy) s = { s with policy := policy }) ∧
    (∀ regions, applyHost (.setRegions regions) s = { s with regions := regions }) ∧
    (∀ addr w, applyHost (.pokeMemory addr w) s = { s with mem := (applyHost (.pokeMemory addr w) s).mem } ∧
      (Memory.wf s.mem = true →
        ∀ b, (applyHost (.pokeMemory addr w) s).peek b = if b = addr then w else s.peek b))

/-- 10_state.md R17, R18, R19; the last clause but one is 60_exceptions.md R239. -/
def Obligations.StatusBytePacksTheFlags : Prop :=
  ∀ (s : State) (w : Byte),
    (s.packed.getLsbD 7 = s.n ∧ s.packed.getLsbD 6 = s.v ∧ s.packed.getLsbD 5 = true ∧
      s.packed.getLsbD 4 = s.b ∧ s.packed.getLsbD 3 = s.d ∧ s.packed.getLsbD 2 = s.i ∧
      s.packed.getLsbD 1 = s.z ∧ s.packed.getLsbD 0 = s.c ∧ 0x20 ≤ s.packed.toNat) ∧
    s.unpack w = { s with
      n := w.getLsbD 7, v := w.getLsbD 6, b := w.getLsbD 4, d := w.getLsbD 3, i := w.getLsbD 2,
      z := w.getLsbD 1, c := w.getLsbD 0 } ∧
    (s.unpack w).packed = w ||| 0x20 ∧
    (∀ forced, s.statusByte forced = State.packed { s with b := forced }) ∧
    s.setNZ w = { s with z := decide (w.toNat = 0), n := decide (128 ≤ w.toNat) } ∧
    ((s.setNZ w).z && (s.setNZ w).n) = false

/-! ## The bus, the stack and the addressing modes -/

/-- 20_memory.md R41, R42, R43. Regions, device history and mark are the model's choice (logs 7, 8, 9). -/
def Obligations.BusAccessContract : Prop :=
  ∀ (s : State) (addr : Word) (w : Byte),
    (memRead addr s = match s.kindAt addr with
      | .ram | .rom => .next (s.peek addr, { s with cyc := s.cyc + 1 })
      | .writeOnly | .absent => .fault (.memoryFault addr { s with faultMark := true })
      | .device =>
        match Config.deviceRead s.deviceLog addr with
        | some answer => .next (answer, { s with
            cyc := s.cyc + 1, deviceLog := .read addr (some answer) :: s.deviceLog })
        | none => .fault (.memoryFault addr { s with
            faultMark := true, deviceLog := .read addr none :: s.deviceLog })) ∧
    (memWrite addr w s = match s.kindAt addr with
      | .ram | .writeOnly => .next { s with mem := Memory.write s.mem addr.toNat w, cyc := s.cyc + 1 }
      | .rom | .absent => .fault (.memoryFault addr { s with faultMark := true })
      | .device =>
        if Config.deviceWrite s.deviceLog addr w then
          .next { s with cyc := s.cyc + 1, deviceLog := .write addr w true :: s.deviceLog }
        else .fault (.memoryFault addr { s with
          faultMark := true, deviceLog := .write addr w false :: s.deviceLog }))

/-- 20_memory.md R50, R52. -/
def Obligations.ReadAfterWriteOnPlainMemory : Prop :=
  ∀ (s : State) (addr other : Word) (w : Byte), Memory.wf s.mem = true → s.kindAt addr = .ram →
    s.readable other = true →
    ∃ t, memWrite addr w s = .next t ∧ Memory.wf t.mem = true ∧
      memRead other t = .next (if other = addr then w else s.peek other, { t with cyc := s.cyc + 2 })

/-- 41_addressing_modes.md R125. -/
def Obligations.PushAndPullOnPageOne : Prop :=
  ∀ (s : State) (w : Byte),
    (push w s = match memWrite (BitVec.ofNat 16 (256 + s.sp.toNat)) w s with
      | .next t => .next { t with sp := BitVec.ofNat 8 ((s.sp.toNat + 255) % 256) }
      | .fault f => .fault f
      | .refused f => .refused f) ∧
    (pull s =
      let sp := (s.sp.toNat + 1) % 256
      memRead (BitVec.ofNat 16 (256 + sp)) { s with sp := BitVec.ofNat 8 sp })

/-- 20_memory.md R46, 41_addressing_modes.md R129. -/
def Obligations.PushedWordIsLittleEndian : Prop :=
  ∀ (s : State) (w : Word), Memory.wf s.mem = true → s.pushReady 2 = true →
    (s.setSP (s.sp - 2)).pullReady 2 = true →
    ∃ t, push16 w s = .next t ∧ t.sp.toNat = (s.sp.toNat + 254) % 256 ∧
      (t.peek (BitVec.ofNat 16 (256 + s.sp.toNat))).toNat = w.toNat / 256 ∧
      (t.peek (BitVec.ofNat 16 (256 + (s.sp.toNat + 255) % 256))).toNat = w.toNat % 256 ∧
      pull16 t = .next (w, { t with sp := s.sp, cyc := s.cyc + 4 })

/-- 41_addressing_modes.md R115 to R120, R126. -/
def Obligations.DirectAndIndexedAddresses : Prop :=
  ∀ (m : AddrMode) (s : State) (addr cost : Nat),
    (match m with
      | .zp b => addr = b.toNat ∧ cost = 0
      | .zpx b => addr = (b.toNat + s.x.toNat) % 256 ∧ cost = 0
      | .zpy b => addr = (b.toNat + s.y.toNat) % 256 ∧ cost = 0
      | .abs w => addr = w.toNat ∧ cost = 0
      | .abx w => addr = (w.toNat + s.x.toNat) % 65536 ∧ cost = if addr / 256 = w.toNat / 256 then 0 else 1
      | .aby w => addr = (w.toNat + s.y.toNat) % 65536 ∧ cost = if addr / 256 = w.toNat / 256 then 0 else 1
      | .ind _ | .izx _ | .izy _ => False) →
    resolve m s = .next (BitVec.ofNat 16 addr, { s with cyc := s.cyc + BitVec.ofNat 64 cost }) ∧
    effAddr m s = BitVec.ofNat 16 addr ∧ resolveCost m s = cost ∧ pointerReadable m s = true

/-- 41_addressing_modes.md R121 (the page-wrap defect), R122, R123, R126. The model's choice: the fault mark (log 9).
-/
def Obligations.PointerModes : Prop :=
  ∀ (m : AddrMode) (s : State) (lo hi index : Nat),
    (match m with
      | .ind w => lo = w.toNat ∧ hi = w.toNat / 256 * 256 + (w.toNat % 256 + 1) % 256 ∧ index = 0
      | .izx b => lo = (b.toNat + s.x.toNat) % 256 ∧ hi = (lo + 1) % 256 ∧ index = 0
      | .izy b => lo = b.toNat ∧ hi = (lo + 1) % 256 ∧ index = s.y.toNat
      | .zp _ | .zpx _ | .zpy _ | .abs _ | .abx _ | .aby _ => False) →
    let p : Word := BitVec.ofNat 16 lo
    let q : Word := BitVec.ofNat 16 hi
    let base := (s.peek q).toNat * 256 + (s.peek p).toNat
    let addr := (base + index) % 65536
    let cost := if addr / 256 = base / 256 then 2 else 3
    (s.readable p = true → s.readable q = true →
      resolve m s = .next (BitVec.ofNat 16 addr, { s with cyc := s.cyc + BitVec.ofNat 64 cost }) ∧
      effAddr m s = BitVec.ofNat 16 addr ∧ resolveCost m s = cost ∧ pointerReadable m s = true) ∧
    (s.refusesRead p = true → resolve m s = .fault (.memoryFault p { s with faultMark := true })) ∧
    (s.readable p = true → s.refusesRead q = true →
      resolve m s = .fault (.memoryFault q { s with cyc := s.cyc + 1, faultMark := true }))

/-! ## Loads, stores, transfers -/

/-- 42_load_store_transfer.md R130, R131, R132. -/
def Obligations.LoadsWriteOneRegister : Prop :=
  ∀ (i : Instr) (src : Source) (s : State), sourceReady src s = true →
    let m := sourceValue src s
    let cost := BitVec.ofNat 64 (sourceCost src s)
    (i.form = .read .lda src →
      exec i s = .next { s with a := m, z := decide (m.toNat = 0), n := m.getLsbD 7, cyc := s.cyc + cost }) ∧
    (i.form = .read .ldx src →
      exec i s = .next { s with x := m, z := decide (m.toNat = 0), n := m.getLsbD 7, cyc := s.cyc + cost }) ∧
    (i.form = .read .ldy src →
      exec i s = .next { s with y := m, z := decide (m.toNat = 0), n := m.getLsbD 7, cyc := s.cyc + cost })

/-- 42_load_store_transfer.md R133, R134, R135; 41_addressing_modes.md R128 (`StoreOperand`). -/
def Obligations.StoresWriteOneByte : Prop :=
  ∀ (i : Instr) (op : StoreOp) (m : AddrMode) (s : State), i.form = .store op m →
    let w := match op with
      | .sta => s.a
      | .stx => s.x
      | .sty => s.y
    (∀ ea u, resolve m s = .next (ea, u) → exec i s = memWrite ea w u) ∧
    (∀ f, resolve m s = .fault f → exec i s = .fault f) ∧
    (pointerReadable m s = true → s.writable (effAddr m s) = true →
      exec i s = .next { s with
        mem := Memory.write s.mem (effAddr m s).toNat w, cyc := s.cyc + BitVec.ofNat 64 (resolveCost m s + 1) })

/-- 42_load_store_transfer.md R136 to R142. -/
def Obligations.TransfersCopyARegister : Prop :=
  (∀ s : State,
    exec .taxImp s = .next { s with x := s.a, z := decide (s.a.toNat = 0), n := s.a.getLsbD 7 } ∧
    exec .tayImp s = .next { s with y := s.a, z := decide (s.a.toNat = 0), n := s.a.getLsbD 7 } ∧
    exec .tsxImp s = .next { s with x := s.sp, z := decide (s.sp.toNat = 0), n := s.sp.getLsbD 7 } ∧
    exec .txaImp s = .next { s with a := s.x, z := decide (s.x.toNat = 0), n := s.x.getLsbD 7 } ∧
    exec .txsImp s = .next { s with sp := s.x } ∧
    exec .tyaImp s = .next { s with a := s.y, z := decide (s.y.toNat = 0), n := s.y.getLsbD 7 }) ∧
  (encode .taxImp = [0xAA] ∧ encode .tayImp = [0xA8] ∧ encode .tsxImp = [0xBA] ∧ encode .txaImp = [0x8A] ∧
    encode .txsImp = [0x9A] ∧ encode .tyaImp = [0x98]) ∧
  ∀ opcode ∈ [0xAA, 0xA8, 0xBA, 0x8A, 0x9A, 0x98], internalCycles Config.default opcode + 1 = 2

/-! ## Arithmetic -/

/-- 43_arithmetic_compare.md R150, 10_state.md R16 (V is signed overflow of the binary operation). -/
def Obligations.AdcBinarySum : Prop :=
  ∀ (i : Instr) (src : Source) (s : State), i.form = .read .adc src → sourceReady src s = true → s.d = false →
    let m := sourceValue src s
    let t := s.a.toNat + m.toNat + s.c.toNat
    let signed := s.a.toInt + m.toInt + s.c.toNat
    exec i s = .next { s with
      a := BitVec.ofNat 8 (t % 256), c := decide (255 < t), z := decide (t % 256 = 0),
      n := decide (128 ≤ t % 256), v := decide (signed < -128 ∨ 127 < signed),
      cyc := s.cyc + BitVec.ofNat 64 (sourceCost src s) }

/-- 43_arithmetic_compare.md R150, R151; the default for other digits is a parameter (log 6). -/
def Obligations.AdcDecimalSum : Prop :=
  ∀ (i : Instr) (src : Source) (s : State), i.form = .read .adc src → sourceReady src s = true → s.d = true →
    let m := sourceValue src s
    let t := s.a.toNat + m.toNat + s.c.toNat
    let signed := s.a.toInt + m.toInt + s.c.toNat
    let r := bcdAdd s.cfg s.a m s.c
    exec i s = .next { s with
      a := r.1, c := r.2, z := decide (t % 256 = 0), n := decide (128 ≤ t % 256),
      v := decide (signed < -128 ∨ 127 < signed), cyc := s.cyc + BitVec.ofNat 64 (sourceCost src s) } ∧
    (s.a.toNat / 16 ≤ 9 → s.a.toNat % 16 ≤ 9 → m.toNat / 16 ≤ 9 → m.toNat % 16 ≤ 9 →
      let k := 10 * (s.a.toNat / 16) + s.a.toNat % 16 + (10 * (m.toNat / 16) + m.toNat % 16) + s.c.toNat
      r = (BitVec.ofNat 8 (k % 100 / 10 * 16 + k % 100 % 10), decide (99 < k))) ∧
    (s.cfg.invalidBcd = .nmos →
      let al := s.a.toNat % 16 + m.toNat % 16 + s.c.toNat
      let fixed := if 10 ≤ al then (al + 6) % 16 + 16 else al
      let k := s.a.toNat / 16 * 16 + m.toNat / 16 * 16 + fixed
      r = if 160 ≤ k then (BitVec.ofNat 8 ((k + 96) % 256), true) else (BitVec.ofNat 8 (k % 256), false))

/-- 43_arithmetic_compare.md R152, 10_state.md R16. -/
def Obligations.SbcBinaryDifference : Prop :=
  ∀ (i : Instr) (src : Source) (s : State), i.form = .read .sbc src → sourceReady src s = true → s.d = false →
    let m := sourceValue src s
    let t : Int := (s.a.toNat : Int) - m.toNat - (1 - s.c.toNat)
    let signed : Int := s.a.toInt - m.toInt - (1 - s.c.toNat)
    exec i s = .next { s with
      a := BitVec.ofInt 8 (t % 256), c := decide (0 ≤ t), z := decide (t % 256 = 0),
      n := decide (128 ≤ t % 256), v := decide (signed < -128 ∨ 127 < signed),
      cyc := s.cyc + BitVec.ofNat 64 (sourceCost src s) }

/-- 43_arithmetic_compare.md R152, R153; the default for other digits is a parameter (log 6). -/
def Obligations.SbcDecimalDifference : Prop :=
  ∀ (i : Instr) (src : Source) (s : State), i.form = .read .sbc src → sourceReady src s = true → s.d = true →
    let m := sourceValue src s
    let t : Int := (s.a.toNat : Int) - m.toNat - (1 - s.c.toNat)
    let signed : Int := s.a.toInt - m.toInt - (1 - s.c.toNat)
    let r := bcdSub s.cfg s.a m s.c
    exec i s = .next { s with
      a := r.1, c := r.2, z := decide (t % 256 = 0), n := decide (128 ≤ t % 256),
      v := decide (signed < -128 ∨ 127 < signed), cyc := s.cyc + BitVec.ofNat 64 (sourceCost src s) } ∧
    (s.a.toNat / 16 ≤ 9 → s.a.toNat % 16 ≤ 9 → m.toNat / 16 ≤ 9 → m.toNat % 16 ≤ 9 →
      let k : Int := (10 * (s.a.toNat / 16) + s.a.toNat % 16 : Nat) - (10 * (m.toNat / 16) + m.toNat % 16 : Nat) -
        (1 - s.c.toNat)
      r = (BitVec.ofInt 8 (k % 100 / 10 * 16 + k % 100 % 10), decide (0 ≤ k))) ∧
    (s.cfg.invalidBcd = .nmos →
      let al : Int := (s.a.toNat % 16 : Nat) - (m.toNat % 16 : Nat) + s.c.toNat - 1
      let fixed := if al < 0 then (al - 6) % 16 - 16 else al
      let k := (s.a.toNat / 16 * 16 : Nat) - (m.toNat / 16 * 16 : Nat) + fixed
      r = (if k < 0 then (BitVec.ofInt 8 ((k - 96) % 256), false) else (BitVec.ofInt 8 (k % 256), true)) ∧
      r.2 = decide (0 ≤ t))

/-- 43_arithmetic_compare.md R154, R155, R156, R164. -/
def Obligations.ComparesSetNZC : Prop :=
  ∀ (i : Instr) (op : ReadOp) (src : Source) (s : State) (reg : Byte), i.form = .read op src →
    sourceReady src s = true →
    (op = .cmp ∧ reg = s.a ∨ op = .cpx ∧ reg = s.x ∨ op = .cpy ∧ reg = s.y) →
    let m := sourceValue src s
    exec i s = .next { s with
      z := decide (reg = m), n := decide (128 ≤ (reg.toNat + 256 - m.toNat) % 256),
      c := decide (m.toNat ≤ reg.toNat), cyc := s.cyc + BitVec.ofNat 64 (sourceCost src s) }

/-- 43_arithmetic_compare.md R159 to R162. -/
def Obligations.IndexRegistersCountModulo256 : Prop :=
  (∀ s : State,
    let up := fun w : Byte => (w.toNat + 1) % 256
    let down := fun w : Byte => (w.toNat + 255) % 256
    exec .inxImp s = .next { s with
      x := BitVec.ofNat 8 (up s.x), z := decide (up s.x = 0), n := decide (128 ≤ up s.x) } ∧
    exec .inyImp s = .next { s with
      y := BitVec.ofNat 8 (up s.y), z := decide (up s.y = 0), n := decide (128 ≤ up s.y) } ∧
    exec .dexImp s = .next { s with
      x := BitVec.ofNat 8 (down s.x), z := decide (down s.x = 0), n := decide (128 ≤ down s.x) } ∧
    exec .deyImp s = .next { s with
      y := BitVec.ofNat 8 (down s.y), z := decide (down s.y = 0), n := decide (128 ≤ down s.y) }) ∧
  (encode .inxImp = [0xE8] ∧ encode .inyImp = [0xC8] ∧ encode .dexImp = [0xCA] ∧ encode .deyImp = [0x88]) ∧
  ∀ opcode ∈ [0xE8, 0xC8, 0xCA, 0x88], internalCycles Config.default opcode + 1 = 2

/-! ## Logical operations, shifts, read-modify-write -/

/-- 44_logical_shift.md R170 to R173, R179. -/
def Obligations.LogicalOperationsAndBit : Prop :=
  ∀ (i : Instr) (src : Source) (s : State), sourceReady src s = true →
    let m := sourceValue src s
    let cost := BitVec.ofNat 64 (sourceCost src s)
    (i.form = .read .and src → exec i s = .next { s with
      a := s.a &&& m, z := decide (s.a &&& m = 0), n := s.a.getLsbD 7 && m.getLsbD 7, cyc := s.cyc + cost }) ∧
    (i.form = .read .ora src → exec i s = .next { s with
      a := s.a ||| m, z := decide (s.a = 0 ∧ m = 0), n := s.a.getLsbD 7 || m.getLsbD 7, cyc := s.cyc + cost }) ∧
    (i.form = .read .eor src → exec i s = .next { s with
      a := s.a ^^^ m, z := decide (s.a = m), n := s.a.getLsbD 7 != m.getLsbD 7, cyc := s.cyc + cost }) ∧
    (i.form = .read .bit src → exec i s = .next { s with
      n := m.getLsbD 7, v := m.getLsbD 6, z := decide (s.a &&& m = 0), cyc := s.cyc + cost })

/-- 44_logical_shift.md R174 to R178. -/
def Obligations.AccumulatorShifts : Prop :=
  ∀ (i : Instr) (op : ModifyOp) (s : State), i.form = .modifyAcc op →
    let old := s.a.toNat
    let out := match op with
      | .asl => old * 2 % 256
      | .lsr => old / 2
      | .rol => old * 2 % 256 + s.c.toNat
      | .ror => old / 2 + 128 * s.c.toNat
      | .inc | .dec => old
    let carry := match op with
      | .asl | .rol => decide (128 ≤ old)
      | .lsr | .ror => decide (old % 2 = 1)
      | .inc | .dec => s.c
    exec i s = .next { s with
      a := BitVec.ofNat 8 out, c := carry, z := decide (out = 0), n := decide (128 ≤ out) }

/-- 43_arithmetic_compare.md R157, R158, 44_logical_shift.md R174 to R178, 41_addressing_modes.md R128. -/
def Obligations.ReadModifyWriteMemory : Prop :=
  ∀ (i : Instr) (op : ModifyOp) (m : AddrMode) (s : State), i.form = .modify op m →
    let out := fun old : Nat => match op with
      | .asl => old * 2 % 256
      | .lsr => old / 2
      | .rol => old * 2 % 256 + s.c.toNat
      | .ror => old / 2 + 128 * s.c.toNat
      | .inc => (old + 1) % 256
      | .dec => (old + 255) % 256
    let carry := fun old : Nat => match op with
      | .asl | .rol => decide (128 ≤ old)
      | .lsr | .ror => decide (old % 2 = 1)
      | .inc | .dec => s.c
    (∀ ea u old v, resolve m s = .next (ea, u) → memRead ea u = .next (old, v) →
      exec i s = memWrite ea (BitVec.ofNat 8 (out old.toNat)) { v with
        c := carry old.toNat, z := decide (out old.toNat = 0), n := decide (128 ≤ out old.toNat) }) ∧
    (pointerReadable m s = true → s.readable (effAddr m s) = true → s.writable (effAddr m s) = true →
      let old := (s.peek (effAddr m s)).toNat
      exec i s = .next { s with
        mem := Memory.write s.mem (effAddr m s).toNat (BitVec.ofNat 8 (out old)),
        c := carry old, z := decide (out old = 0), n := decide (128 ≤ out old),
        cyc := s.cyc + BitVec.ofNat 64 (resolveCost m s + 2) })

/-! ## Stack and flag instructions -/

/-- 45_stack_flag_nop.md R190, R191 (the stored B is pushed). The mark is the model's choice (log 9). -/
def Obligations.PhaAndPhpPushOneByte : Prop :=
  (encode .phaImp = [0x48] ∧ encode .phpImp = [0x08] ∧
    ∀ opcode ∈ [0x48, 0x08], internalCycles Config.default opcode + 2 = 3) ∧
  ∀ s : State, exec .phaImp s = push s.a s ∧ exec .phpImp s = push s.packed s ∧
    let addr : Word := BitVec.ofNat 16 (256 + s.sp.toNat)
    let status := s.n.toNat * 128 + s.v.toNat * 64 + 32 + s.b.toNat * 16 + s.d.toNat * 8 + s.i.toNat * 4 +
      s.z.toNat * 2 + s.c.toNat
    (s.writable addr = true →
      exec .phaImp s = .next { s with
        mem := Memory.write s.mem addr.toNat s.a, sp := s.sp - 1, cyc := s.cyc + 1 } ∧
      exec .phpImp s = .next { s with
        mem := Memory.write s.mem addr.toNat (BitVec.ofNat 8 status), sp := s.sp - 1, cyc := s.cyc + 1 }) ∧
    (s.refusesWrite addr = true →
      exec .phaImp s = .fault (.memoryFault addr { s with faultMark := true }) ∧
      exec .phpImp s = .fault (.memoryFault addr { s with faultMark := true }))

/-- 45_stack_flag_nop.md R192, R193. The mark is the model's choice (log 9). -/
def Obligations.PlaAndPlpPullOneByte : Prop :=
  (encode .plaImp = [0x68] ∧ encode .plpImp = [0x28] ∧
    ∀ opcode ∈ [0x68, 0x28], internalCycles Config.default opcode + 2 = 4) ∧
  ∀ s : State,
    (∀ w t, pull s = .next (w, t) →
      exec .plaImp s = .next { t with a := w, z := decide (w.toNat = 0), n := w.getLsbD 7 } ∧
      exec .plpImp s = .next (t.unpack w)) ∧
    (∀ f, pull s = .fault f → exec .plaImp s = .fault f ∧ exec .plpImp s = .fault f) ∧
    let addr : Word := BitVec.ofNat 16 (256 + (s.sp.toNat + 1) % 256)
    let w := s.peek addr
    (s.readable addr = true →
      exec .plaImp s = .next { s with
        a := w, z := decide (w.toNat = 0), n := w.getLsbD 7, sp := s.sp + 1, cyc := s.cyc + 1 } ∧
      exec .plpImp s = .next { s with
        n := w.getLsbD 7, v := w.getLsbD 6, b := w.getLsbD 4, d := w.getLsbD 3, i := w.getLsbD 2,
        z := w.getLsbD 1, c := w.getLsbD 0, sp := s.sp + 1, cyc := s.cyc + 1 }) ∧
    (s.refusesRead addr = true →
      exec .plaImp s = .fault (.memoryFault addr { s with sp := s.sp + 1, faultMark := true }) ∧
      exec .plpImp s = .fault (.memoryFault addr { s with sp := s.sp + 1, faultMark := true }))

/-- 45_stack_flag_nop.md R194 to R202. -/
def Obligations.FlagInstructionsWriteOneFlag : Prop :=
  (∀ s : State,
    exec .clcImp s = .next { s with c := false } ∧ exec .secImp s = .next { s with c := true } ∧
    exec .cliImp s = .next { s with i := false } ∧ exec .seiImp s = .next { s with i := true } ∧
    exec .cldImp s = .next { s with d := false } ∧ exec .sedImp s = .next { s with d := true } ∧
    exec .clvImp s = .next { s with v := false } ∧ exec .nopImp s = .next s) ∧
  (∀ s t : State, s.nmiPending = false → s.irqLine = true →
    (exec .cliImp s = .next t → pollInterrupts t = irqResponse t) ∧
    (exec .seiImp s = .next t → pollInterrupts t = .next t)) ∧
  (∀ s t : State, s.nmiPending = true → exec .cliImp s = .next t ∨ exec .seiImp s = .next t →
    pollInterrupts t = nmiResponse t) ∧
  (encode .clcImp = [0x18] ∧ encode .secImp = [0x38] ∧ encode .cliImp = [0x58] ∧ encode .seiImp = [0x78] ∧
    encode .cldImp = [0xD8] ∧ encode .sedImp = [0xF8] ∧ encode .clvImp = [0xB8] ∧ encode .nopImp = [0xEA]) ∧
  ∀ opcode ∈ [0x18, 0x38, 0x58, 0x78, 0xD8, 0xF8, 0xB8, 0xEA], internalCycles Config.default opcode + 1 = 2

/-- 46_control_flow.md R220, R221, 45_stack_flag_nop.md R190 to R193. -/
def Obligations.StackRoundTrips : Prop :=
  ∀ (s t : State) (target : Word) (w : Byte), Memory.wf s.mem = true →
    s.pushReady 2 = true → (s.setSP (s.sp - 2)).pullReady 2 = true →
    (exec (.jsrAbs target) s = .next t →
      exec .rtsImp t = .next { t with pc := s.pc, sp := s.sp, cyc := s.cyc + 4 }) ∧
    (exec .phaImp s = .next t → ∃ u, exec .plaImp { t with a := w } = .next u ∧
      u.a = s.a ∧ u.sp = s.sp ∧ u.z = decide (s.a.toNat = 0) ∧ u.n = s.a.getLsbD 7) ∧
    (exec .phpImp s = .next t → exec .plpImp (t.unpack w) = .next { t with sp := s.sp, cyc := s.cyc + 2 })

/-! ## Control flow -/

/-- 46_control_flow.md R210 to R218, 41_addressing_modes.md R124. -/
def Obligations.BranchesTestOneFlag : Prop :=
  ∀ (i : Instr) (op : BranchOp) (d : Byte) (s : State), i.form = .branch op d →
    let taken := match op with
      | .bcc => !s.c
      | .bcs => s.c
      | .beq => s.z
      | .bne => !s.z
      | .bmi => s.n
      | .bpl => !s.n
      | .bvc => !s.v
      | .bvs => s.v
    let offset : Int := if d.toNat < 128 then d.toNat else d.toNat - 256
    let target : Nat := ((s.pc.toNat + offset) % 65536).toNat
    let cost : Cycles := if target / 256 = s.pc.toNat / 256 then 1 else 2
    (taken = false → exec i s = .next s) ∧
    (taken = true → exec i s = .next { s with pc := BitVec.ofNat 16 target, cyc := s.cyc + cost }) ∧
    encode i = [match op with
      | .bcc => 0x90
      | .bcs => 0xB0
      | .beq => 0xF0
      | .bne => 0xD0
      | .bmi => 0x30
      | .bpl => 0x10
      | .bvc => 0x50
      | .bvs => 0x70, d]

/-- 46_control_flow.md R219, 41_addressing_modes.md R118, R121. -/
def Obligations.JumpsLoadPc : Prop :=
  ∀ (w : Word) (s : State),
    let next : Word := BitVec.ofNat 16 (w.toNat / 256 * 256 + (w.toNat % 256 + 1) % 256)
    exec (.jmpAbs w) s = .next { s with pc := w } ∧
    (s.readable w = true → s.readable next = true →
      exec (.jmpInd w) s = .next { s with pc := word (s.peek next) (s.peek w), cyc := s.cyc + 2 }) ∧
    (∀ lo t, memRead w s = .next (lo, t) →
      (∀ hi u, memRead next t = .next (hi, u) → exec (.jmpInd w) s = .next { u with pc := word hi lo }) ∧
      (∀ f, memRead next t = .fault f → exec (.jmpInd w) s = .fault f)) ∧
    (∀ f, memRead w s = .fault f → exec (.jmpInd w) s = .fault f) ∧
    encode (.jmpAbs w) = [0x4C, BitVec.ofNat 8 (w.toNat % 256), BitVec.ofNat 8 (w.toNat / 256)] ∧
    encode (.jmpInd w) = [0x6C, BitVec.ofNat 8 (w.toNat % 256), BitVec.ofNat 8 (w.toNat / 256)]

/-- 46_control_flow.md R220. The model's choice: the fault mark (log 9). -/
def Obligations.JsrPushesItsLastByteAddress : Prop :=
  ∀ (target : Word) (s : State),
    let back := s.pc - 1
    (s.pushReady 2 = true →
      exec (.jsrAbs target) s = .next
        { s.pokes [(stackAddr s.sp, hiByte back), (stackAddr (s.sp - 1), loByte back)] with
          sp := s.sp - 2, pc := target, cyc := s.cyc + 2 }) ∧
    (s.refusesWrite (stackAddr s.sp) = true →
      exec (.jsrAbs target) s = .fault (.memoryFault (stackAddr s.sp) { s with faultMark := true })) ∧
    (s.pushReady 1 = true → s.refusesWrite (stackAddr (s.sp - 1)) = true →
      exec (.jsrAbs target) s = .fault (.memoryFault (stackAddr (s.sp - 1))
        { s.pokes [(stackAddr s.sp, hiByte back)] with sp := s.sp - 1, cyc := s.cyc + 1, faultMark := true })) ∧
    encode (.jsrAbs target) = [0x20, BitVec.ofNat 8 (target.toNat % 256), BitVec.ofNat 8 (target.toNat / 256)]

/-- 46_control_flow.md R221. The mark is the model's choice (log 9). -/
def Obligations.RtsReturnsPastThePulledAddress : Prop :=
  encode .rtsImp = [0x60] ∧ internalCycles Config.default 0x60 + 3 = 6 ∧
  ∀ s : State,
    (∀ w t, pull16 s = .next (w, t) → exec .rtsImp s = .next { t with pc := w + 1 }) ∧
    (∀ f, pull16 s = .fault f → exec .rtsImp s = .fault f) ∧
    let lo : Word := BitVec.ofNat 16 (256 + (s.sp.toNat + 1) % 256)
    let hi : Word := BitVec.ofNat 16 (256 + (s.sp.toNat + 2) % 256)
    (s.readable lo = true → s.readable hi = true →
      exec .rtsImp s = .next { s with
        pc := BitVec.ofNat 16 (((s.peek hi).toNat * 256 + (s.peek lo).toNat + 1) % 65536),
        sp := s.sp + 2, cyc := s.cyc + 2 }) ∧
    (s.refusesRead lo = true →
      exec .rtsImp s = .fault (.memoryFault lo { s with sp := s.sp + 1, faultMark := true })) ∧
    (s.readable lo = true → s.refusesRead hi = true →
      exec .rtsImp s = .fault (.memoryFault hi { s with sp := s.sp + 2, cyc := s.cyc + 1, faultMark := true }))

/-! ## Frames and refusals, wherever the accesses land -/

/-- The "Flags written" lines of 42_load_store_transfer.md, 43_arithmetic_compare.md, 44_logical_shift.md. -/
def Obligations.ReadInstructionsFrame : Prop :=
  ∀ (i : Instr) (op : ReadOp) (src : Source) (s t : State), i.form = .read op src → exec i s = .next t →
    (t = match op with
      | .lda | .and | .ora | .eor => { s with
          a := t.a, z := t.z, n := t.n, cyc := t.cyc, deviceLog := t.deviceLog }
      | .ldx => { s with x := t.x, z := t.z, n := t.n, cyc := t.cyc, deviceLog := t.deviceLog }
      | .ldy => { s with y := t.y, z := t.z, n := t.n, cyc := t.cyc, deviceLog := t.deviceLog }
      | .adc | .sbc => { s with
          a := t.a, z := t.z, n := t.n, c := t.c, v := t.v, cyc := t.cyc, deviceLog := t.deviceLog }
      | .cmp | .cpx | .cpy => { s with z := t.z, n := t.n, c := t.c, cyc := t.cyc, deviceLog := t.deviceLog }
      | .bit => { s with z := t.z, n := t.n, v := t.v, cyc := t.cyc, deviceLog := t.deviceLog }) ∧
    ∀ addr, t.peek addr = s.peek addr

/-- 41_addressing_modes.md R128, 44_logical_shift.md R173; the "Exceptions" lines of the read instructions. -/
def Obligations.OperandComesFromTheBus : Prop :=
  ∀ (i : Instr) (op : ReadOp) (src : Source) (s : State), i.form = .read op src →
    (∀ w t, loadOperand src s = .next (w, t) →
      (∃ u, exec i s = .next u) ∧ ∀ j : Instr, j.form = .read op (.imm w) → exec i s = exec j t) ∧
    (∀ w t, loadOperand src s = .next (w, t) → op = .bit → exec i s = .next { t with
      n := w.getLsbD 7, v := w.getLsbD 6, z := decide (s.a &&& w = 0) }) ∧
    (∀ f, loadOperand src s = .fault f → exec i s = .fault f ∧ (∃ addr, f = .memoryFault addr f.left) ∧
      f.left = { s with cyc := f.left.cyc, deviceLog := f.left.deviceLog, faultMark := true }) ∧
    (∀ f, exec i s ≠ .refused f)

/-- 42_load_store_transfer.md R133 to R135, 20_memory.md R42, R51. The model's choice: the device history (log 8), the
fault mark (log 9). -/
def Obligations.StoresFrame : Prop :=
  ∀ (i : Instr) (op : StoreOp) (m : AddrMode) (s : State), i.form = .store op m → Memory.wf s.mem = true →
    (∀ ea u t, resolve m s = .next (ea, u) → exec i s = .next t →
      t = { s with mem := t.mem, cyc := t.cyc, deviceLog := t.deviceLog } ∧
      ∀ addr, addr ≠ ea → t.peek addr = s.peek addr) ∧
    (∀ f, exec i s = .fault f →
      f.left = { s with cyc := f.left.cyc, deviceLog := f.left.deviceLog, faultMark := true })

/-- 41_addressing_modes.md R128, 43_arithmetic_compare.md R157, R158, 44_logical_shift.md R178. The device history and
the mark are the model's choice (logs 8, 9). -/
def Obligations.ReadModifyWriteFrame : Prop :=
  ∀ (i : Instr) (op : ModifyOp) (m : AddrMode) (s : State), i.form = .modify op m → Memory.wf s.mem = true →
    (∀ ea u t, resolve m s = .next (ea, u) → exec i s = .next t →
      t = { s with
        mem := t.mem, z := t.z, n := t.n, c := (if op = .inc ∨ op = .dec then s.c else t.c),
        cyc := t.cyc, deviceLog := t.deviceLog } ∧
      ∀ addr, addr ≠ ea → t.peek addr = s.peek addr) ∧
    (∀ f, exec i s = .fault f →
      f.left = { s with
        z := f.left.z, n := f.left.n, c := (if op = .inc ∨ op = .dec then s.c else f.left.c),
        cyc := f.left.cyc, deviceLog := f.left.deviceLog, faultMark := true }) ∧
    (∀ f, (resolve m s = .fault f ∨ ∃ ea u, resolve m s = .next (ea, u) ∧ memRead ea u = .fault f) →
      exec i s = .fault f ∧
      f.left = { s with cyc := f.left.cyc, deviceLog := f.left.deviceLog, faultMark := true }) ∧
    (∀ t, pointerReadable m s = true → s.kindAt (effAddr m s) = .rom →
      exec i { s with regions := [] } = .next t →
      exec i s = .fault (.memoryFault (effAddr m s) { t with
        regions := s.regions, mem := s.mem, cyc := t.cyc - 1, faultMark := true }))

/-- 41_addressing_modes.md R125, R129; the "Registers written" lines of 45_stack_flag_nop.md and 46_control_flow.md.
The model's choice: the device history (log 8). -/
def Obligations.StackInstructionsFrame : Prop :=
  ∀ s t : State, Memory.wf s.mem = true →
    (exec .phaImp s = .next t ∨ exec .phpImp s = .next t →
      t = { s with sp := s.sp - 1, mem := t.mem, cyc := t.cyc, deviceLog := t.deviceLog } ∧
      ∀ addr, addr ≠ stackAddr s.sp → t.peek addr = s.peek addr) ∧
    (∀ target, exec (.jsrAbs target) s = .next t →
      t = { s with sp := s.sp - 2, pc := target, mem := t.mem, cyc := t.cyc, deviceLog := t.deviceLog } ∧
      ∀ addr, addr ∉ [stackAddr s.sp, stackAddr (s.sp - 1)] → t.peek addr = s.peek addr) ∧
    (exec .brkImp s = .next t →
      t = { s with
        sp := s.sp - 3, pc := t.pc, i := true, b := (if s.cfg.bWriteback then true else s.b),
        mem := t.mem, cyc := t.cyc, deviceLog := t.deviceLog } ∧
      ∀ addr, addr ∉ [stackAddr s.sp, stackAddr (s.sp - 1), stackAddr (s.sp - 2)] → t.peek addr = s.peek addr) ∧
    (exec .plaImp s = .next t →
      t = { s with a := t.a, z := t.z, n := t.n, sp := s.sp + 1, cyc := t.cyc, deviceLog := t.deviceLog }) ∧
    (exec .plpImp s = .next t →
      t = { s with
        c := t.c, z := t.z, i := t.i, d := t.d, b := t.b, v := t.v, n := t.n,
        sp := s.sp + 1, cyc := t.cyc, deviceLog := t.deviceLog }) ∧
    (exec .rtsImp s = .next t →
      t = { s with pc := t.pc, sp := s.sp + 2, cyc := t.cyc, deviceLog := t.deviceLog }) ∧
    (exec .rtiImp s = .next t →
      t = { s with
        c := t.c, z := t.z, i := t.i, d := t.d, b := t.b, v := t.v, n := t.n,
        pc := t.pc, sp := s.sp + 3, cyc := t.cyc, deviceLog := t.deviceLog })

/-! ## Rules over the whole machine -/

/-- The "written by" column of 10_state.md section 1 (R34) for the registers; R14 for PC; R125 and R128 of
41_addressing_modes.md with the instruction rules for memory. -/
def Obligations.RegistersHaveTheirWriters : Prop :=
  ∀ (i : Instr) (s t : State), exec i s = .next t →
    (t.a ≠ s.a → i.mnemonic ∈ ["LDA", "PLA", "TXA", "TYA", "ADC", "SBC", "AND", "ORA", "EOR"] ∨
      i.mnemonic ∈ ["ASL", "LSR", "ROL", "ROR"] ∧ i.mode = some .acc) ∧
    (t.x ≠ s.x → i.mnemonic ∈ ["LDX", "TAX", "TSX", "INX", "DEX"]) ∧
    (t.y ≠ s.y → i.mnemonic ∈ ["LDY", "TAY", "INY", "DEY"]) ∧
    (t.sp ≠ s.sp → i.mnemonic ∈ ["TXS", "PHA", "PHP", "PLA", "PLP", "JSR", "RTS", "BRK", "RTI"]) ∧
    (t.pc ≠ s.pc → i.mnemonic ∈
      ["BCC", "BCS", "BEQ", "BNE", "BMI", "BPL", "BVC", "BVS", "JMP", "JSR", "RTS", "BRK", "RTI"]) ∧
    (t.mem ≠ s.mem → i.mnemonic ∈ ["STA", "STX", "STY", "PHA", "PHP", "JSR", "BRK"] ∨
      i.mnemonic ∈ ["ASL", "LSR", "ROL", "ROR", "INC", "DEC"] ∧ i.mode ≠ some .acc)

/-- The "written by" column of 10_state.md section 1 (R16, R34); 45_stack_flag_nop.md R199. -/
def Obligations.FlagsHaveTheirWriters : Prop :=
  (∀ (i : Instr) (s t : State), exec i s = .next t →
    (t.c ≠ s.c → i.mnemonic ∈
      ["ADC", "SBC", "CMP", "CPX", "CPY", "ASL", "LSR", "ROL", "ROR", "CLC", "SEC", "PLP", "RTI"]) ∧
    (t.i ≠ s.i → i.mnemonic ∈ ["SEI", "CLI", "PLP", "RTI", "BRK"]) ∧
    (t.d ≠ s.d → i.mnemonic ∈ ["SED", "CLD", "PLP", "RTI"]) ∧
    (t.b ≠ s.b → i.mnemonic ∈ ["PLP", "RTI"] ∨ i.mnemonic = "BRK" ∧ s.cfg.bWriteback = true) ∧
    (t.v ≠ s.v → i.mnemonic ∈ ["ADC", "SBC", "BIT", "CLV", "PLP", "RTI"]) ∧
    (t.z ≠ s.z ∨ t.n ≠ s.n → i.mode ≠ none ∧ i.mode ≠ some .rel ∧ i.mnemonic ∉
      ["STA", "STX", "STY", "JMP", "JSR", "PHA", "PHP", "CLC", "SEC", "CLI", "SEI", "CLD", "SED", "CLV", "TXS",
       "NOP", "RTS", "BRK"])) ∧
  ∀ s t : State, pollInterrupts s = .next t →
    t.c = s.c ∧ t.z = s.z ∧ t.d = s.d ∧ t.v = s.v ∧ t.n = s.n ∧ (s.cfg.bWriteback = false → t.b = s.b)

/-- 10_state.md R21, R22, R25 and 60_exceptions.md R233: the engine never changes these, and only clears the latch.
The model's choice: the fault mark (log 9), the refusal mark (log 10). -/
def Obligations.EngineLeavesTheLinesAlone : Prop :=
  ∀ s t : State, (stateAfter (step s) = some t ∨ stateAfter (engineReset s) = some t) →
    SameOutside s t ∧ (t.nmiPending = true → s.nmiPending = true) ∧
    (s.faultMark = true → t.faultMark = true) ∧ (s.refusalMark = true → t.refusalMark = true)

/-- The invariant of Machine/Memory.lean over all transitions (00_scope.md R7, 20_memory.md R40). -/
def Obligations.MemoryStaysCanonical : Prop :=
  ∀ (tr : Transition) (s t : State), Memory.wf s.mem = true → stateAfter (transition tr s) = some t →
    Memory.wf t.mem = true
end

