-- ==== Sys2Proof/Laws/Memory.lean ====
section
/-! SUPPORT. Laws of memory: every write keeps the canonical form, and a read after a write gives the value written
there and the old value everywhere else. -/

namespace Sys2Proof.Machine

theorem Memory.wfFrom_cons {lo k : Nat} {w : Byte} {m : Memory} :
    Memory.wfFrom lo ((k, w) :: m) = true ↔
      lo ≤ k ∧ k < 65536 ∧ w ≠ Memory.blank ∧ Memory.wfFrom (k + 1) m = true := by
  simp [Memory.wfFrom, and_assoc]

theorem Memory.wfFrom_of_le {lo lo' : Nat} {m : Memory} (h : lo' ≤ lo)
    (hm : Memory.wfFrom lo m = true) : Memory.wfFrom lo' m = true := by
  cases m with
  | nil => rfl
  | cons p m =>
    rw [Memory.wfFrom_cons] at hm ⊢
    exact ⟨by omega, hm.2⟩

/-- Nothing is listed below the bound. -/
theorem Memory.read_of_lt {lo a : Nat} {m : Memory} (hm : Memory.wfFrom lo m = true) (h : a < lo) :
    Memory.read m a = Memory.blank := by
  induction m generalizing lo with
  | nil => rfl
  | cons p m ih =>
    rw [Memory.wfFrom_cons] at hm
    rw [Memory.read, if_neg (by omega)]
    exact ih hm.2.2.2 (by omega)

theorem Memory.read_cons (k a : Nat) (w : Byte) (m : Memory) :
    Memory.read ((k, w) :: m) a = if k = a then w else Memory.read m a := rfl

theorem Memory.read_consBlank {a : Nat} {m : Memory} (w : Byte) (hm : Memory.wfFrom (a + 1) m = true) (b : Nat) :
    Memory.read (Memory.cons a w m) b = if a = b then w else Memory.read m b := by
  unfold Memory.cons
  split
  · rename_i hw
    split
    · rename_i hab
      rw [hw, Memory.read_of_lt hm (by omega)]
    · rfl
  · rfl

theorem Memory.wfFrom_consBlank {lo a : Nat} {m : Memory} (w : Byte) (hlo : lo ≤ a) (ha : a < 65536)
    (hm : Memory.wfFrom (a + 1) m = true) : Memory.wfFrom lo (Memory.cons a w m) = true := by
  unfold Memory.cons
  split
  · exact Memory.wfFrom_of_le (by omega) hm
  · rename_i hw
    exact Memory.wfFrom_cons.mpr ⟨hlo, ha, hw, hm⟩

theorem Memory.wfFrom_write {lo a : Nat} {m : Memory} (w : Byte) (hlo : lo ≤ a) (ha : a < 65536)
    (hm : Memory.wfFrom lo m = true) : Memory.wfFrom lo (Memory.write m a w) = true := by
  induction m generalizing lo with
  | nil => exact Memory.wfFrom_consBlank w hlo ha rfl
  | cons p m ih =>
    obtain ⟨k, u⟩ := p
    have h := Memory.wfFrom_cons.mp hm
    unfold Memory.write
    split
    · exact Memory.wfFrom_consBlank w hlo ha (Memory.wfFrom_cons.mpr ⟨by omega, h.2⟩)
    · split
      · rename_i hak
        exact Memory.wfFrom_consBlank w hlo ha (hak ▸ h.2.2.2)
      · exact Memory.wfFrom_cons.mpr ⟨h.1, h.2.1, h.2.2.1, ih (by omega) h.2.2.2⟩

/-- A write keeps the canonical form. -/
theorem Memory.wf_write {a : Nat} {m : Memory} (w : Byte) (ha : a < 65536) (hm : Memory.wf m = true) :
    Memory.wf (Memory.write m a w) = true :=
  Memory.wfFrom_write w (Nat.zero_le a) ha hm

theorem Memory.read_write_from {lo a : Nat} {m : Memory} (w : Byte) (hm : Memory.wfFrom lo m = true) (b : Nat) :
    Memory.read (Memory.write m a w) b = if a = b then w else Memory.read m b := by
  induction m generalizing lo with
  | nil => exact Memory.read_consBlank w rfl b
  | cons p m ih =>
    obtain ⟨k, u⟩ := p
    have h := Memory.wfFrom_cons.mp hm
    unfold Memory.write
    split
    · exact Memory.read_consBlank w (Memory.wfFrom_cons.mpr ⟨by omega, h.2⟩) b
    · split
      · rename_i hak
        subst hak
        rw [Memory.read_consBlank w h.2.2.2, Memory.read_cons]
        split <;> rfl
      · rename_i h1 h2
        rw [Memory.read_cons, ih h.2.2.2, Memory.read_cons]
        split
        · rw [if_neg (by omega)]
        · rfl

/-- A read after a write: the value written at that address, the old value at every other. -/
theorem Memory.read_write {a : Nat} {m : Memory} (w : Byte) (hm : Memory.wf m = true) (b : Nat) :
    Memory.read (Memory.write m a w) b = if a = b then w else Memory.read m b :=
  Memory.read_write_from w hm b

/-- Two canonical memories that read alike everywhere are the same list. -/
theorem Memory.ext_of_read {lo : Nat} {m m' : Memory} (hm : Memory.wfFrom lo m = true) (hm' : Memory.wfFrom lo m' = true)
    (h : ∀ a, Memory.read m a = Memory.read m' a) : m = m' := by
  induction m generalizing lo m' with
  | nil =>
    cases m' with
    | nil => rfl
    | cons p m' =>
      obtain ⟨k, u⟩ := p
      have h' := Memory.wfFrom_cons.mp hm'
      have := h k
      rw [Memory.read_cons, if_pos rfl] at this
      exact absurd this.symm h'.2.2.1
  | cons p m ih =>
    obtain ⟨k, u⟩ := p
    have hk := Memory.wfFrom_cons.mp hm
    cases m' with
    | nil =>
      have := h k
      rw [Memory.read_cons, if_pos rfl] at this
      exact absurd this hk.2.2.1
    | cons p' m' =>
      obtain ⟨k', u'⟩ := p'
      have hk' := Memory.wfFrom_cons.mp hm'
      have e1 := h k
      have e2 := h k'
      simp only [Memory.read_cons, if_true] at e1 e2
      have hkk : k = k' := by
        by_contra hne
        rw [if_neg (Ne.symm hne)] at e1
        rw [if_neg hne] at e2
        rcases Nat.lt_or_gt_of_ne hne with hlt | hlt
        · rw [Memory.read_of_lt hk'.2.2.2 (by omega)] at e1
          exact hk.2.2.1 e1
        · rw [Memory.read_of_lt hk.2.2.2 (by omega)] at e2
          exact hk'.2.2.1 e2.symm
      subst hkk
      rw [if_pos rfl] at e1
      have htail : m = m' := by
        refine ih hk.2.2.2 hk'.2.2.2 fun a => ?_
        by_cases ha : k = a
        · rw [Memory.read_of_lt hk.2.2.2 (by omega), Memory.read_of_lt hk'.2.2.2 (by omega)]
        · simpa [Memory.read_cons, ha] using h a
      rw [e1, htail]

end Sys2Proof.Machine
end

