-- ==== Sys2Proof/Laws/State.lean ====
section
/-! SUPPORT. One lemma for each field of each named update of State, true by rfl: no proof unfolds a record update. -/

namespace Sys2Proof.Machine

/-! ## tick -/

@[simp] theorem State.tick_a (k : Nat) (s : State) : (s.tick k).a = s.a := rfl
@[simp] theorem State.tick_x (k : Nat) (s : State) : (s.tick k).x = s.x := rfl
@[simp] theorem State.tick_y (k : Nat) (s : State) : (s.tick k).y = s.y := rfl
@[simp] theorem State.tick_sp (k : Nat) (s : State) : (s.tick k).sp = s.sp := rfl
@[simp] theorem State.tick_pc (k : Nat) (s : State) : (s.tick k).pc = s.pc := rfl
@[simp] theorem State.tick_c (k : Nat) (s : State) : (s.tick k).c = s.c := rfl
@[simp] theorem State.tick_z (k : Nat) (s : State) : (s.tick k).z = s.z := rfl
@[simp] theorem State.tick_i (k : Nat) (s : State) : (s.tick k).i = s.i := rfl
@[simp] theorem State.tick_d (k : Nat) (s : State) : (s.tick k).d = s.d := rfl
@[simp] theorem State.tick_b (k : Nat) (s : State) : (s.tick k).b = s.b := rfl
@[simp] theorem State.tick_v (k : Nat) (s : State) : (s.tick k).v = s.v := rfl
@[simp] theorem State.tick_n (k : Nat) (s : State) : (s.tick k).n = s.n := rfl
@[simp] theorem State.tick_cyc (k : Nat) (s : State) : (s.tick k).cyc = s.cyc + BitVec.ofNat 64 k := rfl
@[simp] theorem State.tick_resetLine (k : Nat) (s : State) : (s.tick k).resetLine = s.resetLine := rfl
@[simp] theorem State.tick_irqLine (k : Nat) (s : State) : (s.tick k).irqLine = s.irqLine := rfl
@[simp] theorem State.tick_nmiLine (k : Nat) (s : State) : (s.tick k).nmiLine = s.nmiLine := rfl
@[simp] theorem State.tick_nmiPending (k : Nat) (s : State) : (s.tick k).nmiPending = s.nmiPending := rfl
@[simp] theorem State.tick_policy (k : Nat) (s : State) : (s.tick k).policy = s.policy := rfl
@[simp] theorem State.tick_cfg (k : Nat) (s : State) : (s.tick k).cfg = s.cfg := rfl
@[simp] theorem State.tick_mem (k : Nat) (s : State) : (s.tick k).mem = s.mem := rfl
@[simp] theorem State.tick_regions (k : Nat) (s : State) : (s.tick k).regions = s.regions := rfl
@[simp] theorem State.tick_deviceLog (k : Nat) (s : State) : (s.tick k).deviceLog = s.deviceLog := rfl
@[simp] theorem State.tick_faultMark (k : Nat) (s : State) : (s.tick k).faultMark = s.faultMark := rfl
@[simp] theorem State.tick_refusalMark (k : Nat) (s : State) : (s.tick k).refusalMark = s.refusalMark := rfl

/-! ## setA -/

@[simp] theorem State.setA_a (w : Byte) (s : State) : (s.setA w).a = w := rfl
@[simp] theorem State.setA_x (w : Byte) (s : State) : (s.setA w).x = s.x := rfl
@[simp] theorem State.setA_y (w : Byte) (s : State) : (s.setA w).y = s.y := rfl
@[simp] theorem State.setA_sp (w : Byte) (s : State) : (s.setA w).sp = s.sp := rfl
@[simp] theorem State.setA_pc (w : Byte) (s : State) : (s.setA w).pc = s.pc := rfl
@[simp] theorem State.setA_c (w : Byte) (s : State) : (s.setA w).c = s.c := rfl
@[simp] theorem State.setA_z (w : Byte) (s : State) : (s.setA w).z = s.z := rfl
@[simp] theorem State.setA_i (w : Byte) (s : State) : (s.setA w).i = s.i := rfl
@[simp] theorem State.setA_d (w : Byte) (s : State) : (s.setA w).d = s.d := rfl
@[simp] theorem State.setA_b (w : Byte) (s : State) : (s.setA w).b = s.b := rfl
@[simp] theorem State.setA_v (w : Byte) (s : State) : (s.setA w).v = s.v := rfl
@[simp] theorem State.setA_n (w : Byte) (s : State) : (s.setA w).n = s.n := rfl
@[simp] theorem State.setA_cyc (w : Byte) (s : State) : (s.setA w).cyc = s.cyc := rfl
@[simp] theorem State.setA_resetLine (w : Byte) (s : State) : (s.setA w).resetLine = s.resetLine := rfl
@[simp] theorem State.setA_irqLine (w : Byte) (s : State) : (s.setA w).irqLine = s.irqLine := rfl
@[simp] theorem State.setA_nmiLine (w : Byte) (s : State) : (s.setA w).nmiLine = s.nmiLine := rfl
@[simp] theorem State.setA_nmiPending (w : Byte) (s : State) : (s.setA w).nmiPending = s.nmiPending := rfl
@[simp] theorem State.setA_policy (w : Byte) (s : State) : (s.setA w).policy = s.policy := rfl
@[simp] theorem State.setA_cfg (w : Byte) (s : State) : (s.setA w).cfg = s.cfg := rfl
@[simp] theorem State.setA_mem (w : Byte) (s : State) : (s.setA w).mem = s.mem := rfl
@[simp] theorem State.setA_regions (w : Byte) (s : State) : (s.setA w).regions = s.regions := rfl
@[simp] theorem State.setA_deviceLog (w : Byte) (s : State) : (s.setA w).deviceLog = s.deviceLog := rfl
@[simp] theorem State.setA_faultMark (w : Byte) (s : State) : (s.setA w).faultMark = s.faultMark := rfl
@[simp] theorem State.setA_refusalMark (w : Byte) (s : State) : (s.setA w).refusalMark = s.refusalMark := rfl

/-! ## setX -/

@[simp] theorem State.setX_a (w : Byte) (s : State) : (s.setX w).a = s.a := rfl
@[simp] theorem State.setX_x (w : Byte) (s : State) : (s.setX w).x = w := rfl
@[simp] theorem State.setX_y (w : Byte) (s : State) : (s.setX w).y = s.y := rfl
@[simp] theorem State.setX_sp (w : Byte) (s : State) : (s.setX w).sp = s.sp := rfl
@[simp] theorem State.setX_pc (w : Byte) (s : State) : (s.setX w).pc = s.pc := rfl
@[simp] theorem State.setX_c (w : Byte) (s : State) : (s.setX w).c = s.c := rfl
@[simp] theorem State.setX_z (w : Byte) (s : State) : (s.setX w).z = s.z := rfl
@[simp] theorem State.setX_i (w : Byte) (s : State) : (s.setX w).i = s.i := rfl
@[simp] theorem State.setX_d (w : Byte) (s : State) : (s.setX w).d = s.d := rfl
@[simp] theorem State.setX_b (w : Byte) (s : State) : (s.setX w).b = s.b := rfl
@[simp] theorem State.setX_v (w : Byte) (s : State) : (s.setX w).v = s.v := rfl
@[simp] theorem State.setX_n (w : Byte) (s : State) : (s.setX w).n = s.n := rfl
@[simp] theorem State.setX_cyc (w : Byte) (s : State) : (s.setX w).cyc = s.cyc := rfl
@[simp] theorem State.setX_resetLine (w : Byte) (s : State) : (s.setX w).resetLine = s.resetLine := rfl
@[simp] theorem State.setX_irqLine (w : Byte) (s : State) : (s.setX w).irqLine = s.irqLine := rfl
@[simp] theorem State.setX_nmiLine (w : Byte) (s : State) : (s.setX w).nmiLine = s.nmiLine := rfl
@[simp] theorem State.setX_nmiPending (w : Byte) (s : State) : (s.setX w).nmiPending = s.nmiPending := rfl
@[simp] theorem State.setX_policy (w : Byte) (s : State) : (s.setX w).policy = s.policy := rfl
@[simp] theorem State.setX_cfg (w : Byte) (s : State) : (s.setX w).cfg = s.cfg := rfl
@[simp] theorem State.setX_mem (w : Byte) (s : State) : (s.setX w).mem = s.mem := rfl
@[simp] theorem State.setX_regions (w : Byte) (s : State) : (s.setX w).regions = s.regions := rfl
@[simp] theorem State.setX_deviceLog (w : Byte) (s : State) : (s.setX w).deviceLog = s.deviceLog := rfl
@[simp] theorem State.setX_faultMark (w : Byte) (s : State) : (s.setX w).faultMark = s.faultMark := rfl
@[simp] theorem State.setX_refusalMark (w : Byte) (s : State) : (s.setX w).refusalMark = s.refusalMark := rfl

/-! ## setY -/

@[simp] theorem State.setY_a (w : Byte) (s : State) : (s.setY w).a = s.a := rfl
@[simp] theorem State.setY_x (w : Byte) (s : State) : (s.setY w).x = s.x := rfl
@[simp] theorem State.setY_y (w : Byte) (s : State) : (s.setY w).y = w := rfl
@[simp] theorem State.setY_sp (w : Byte) (s : State) : (s.setY w).sp = s.sp := rfl
@[simp] theorem State.setY_pc (w : Byte) (s : State) : (s.setY w).pc = s.pc := rfl
@[simp] theorem State.setY_c (w : Byte) (s : State) : (s.setY w).c = s.c := rfl
@[simp] theorem State.setY_z (w : Byte) (s : State) : (s.setY w).z = s.z := rfl
@[simp] theorem State.setY_i (w : Byte) (s : State) : (s.setY w).i = s.i := rfl
@[simp] theorem State.setY_d (w : Byte) (s : State) : (s.setY w).d = s.d := rfl
@[simp] theorem State.setY_b (w : Byte) (s : State) : (s.setY w).b = s.b := rfl
@[simp] theorem State.setY_v (w : Byte) (s : State) : (s.setY w).v = s.v := rfl
@[simp] theorem State.setY_n (w : Byte) (s : State) : (s.setY w).n = s.n := rfl
@[simp] theorem State.setY_cyc (w : Byte) (s : State) : (s.setY w).cyc = s.cyc := rfl
@[simp] theorem State.setY_resetLine (w : Byte) (s : State) : (s.setY w).resetLine = s.resetLine := rfl
@[simp] theorem State.setY_irqLine (w : Byte) (s : State) : (s.setY w).irqLine = s.irqLine := rfl
@[simp] theorem State.setY_nmiLine (w : Byte) (s : State) : (s.setY w).nmiLine = s.nmiLine := rfl
@[simp] theorem State.setY_nmiPending (w : Byte) (s : State) : (s.setY w).nmiPending = s.nmiPending := rfl
@[simp] theorem State.setY_policy (w : Byte) (s : State) : (s.setY w).policy = s.policy := rfl
@[simp] theorem State.setY_cfg (w : Byte) (s : State) : (s.setY w).cfg = s.cfg := rfl
@[simp] theorem State.setY_mem (w : Byte) (s : State) : (s.setY w).mem = s.mem := rfl
@[simp] theorem State.setY_regions (w : Byte) (s : State) : (s.setY w).regions = s.regions := rfl
@[simp] theorem State.setY_deviceLog (w : Byte) (s : State) : (s.setY w).deviceLog = s.deviceLog := rfl
@[simp] theorem State.setY_faultMark (w : Byte) (s : State) : (s.setY w).faultMark = s.faultMark := rfl
@[simp] theorem State.setY_refusalMark (w : Byte) (s : State) : (s.setY w).refusalMark = s.refusalMark := rfl

/-! ## setSP -/

@[simp] theorem State.setSP_a (w : Byte) (s : State) : (s.setSP w).a = s.a := rfl
@[simp] theorem State.setSP_x (w : Byte) (s : State) : (s.setSP w).x = s.x := rfl
@[simp] theorem State.setSP_y (w : Byte) (s : State) : (s.setSP w).y = s.y := rfl
@[simp] theorem State.setSP_sp (w : Byte) (s : State) : (s.setSP w).sp = w := rfl
@[simp] theorem State.setSP_pc (w : Byte) (s : State) : (s.setSP w).pc = s.pc := rfl
@[simp] theorem State.setSP_c (w : Byte) (s : State) : (s.setSP w).c = s.c := rfl
@[simp] theorem State.setSP_z (w : Byte) (s : State) : (s.setSP w).z = s.z := rfl
@[simp] theorem State.setSP_i (w : Byte) (s : State) : (s.setSP w).i = s.i := rfl
@[simp] theorem State.setSP_d (w : Byte) (s : State) : (s.setSP w).d = s.d := rfl
@[simp] theorem State.setSP_b (w : Byte) (s : State) : (s.setSP w).b = s.b := rfl
@[simp] theorem State.setSP_v (w : Byte) (s : State) : (s.setSP w).v = s.v := rfl
@[simp] theorem State.setSP_n (w : Byte) (s : State) : (s.setSP w).n = s.n := rfl
@[simp] theorem State.setSP_cyc (w : Byte) (s : State) : (s.setSP w).cyc = s.cyc := rfl
@[simp] theorem State.setSP_resetLine (w : Byte) (s : State) : (s.setSP w).resetLine = s.resetLine := rfl
@[simp] theorem State.setSP_irqLine (w : Byte) (s : State) : (s.setSP w).irqLine = s.irqLine := rfl
@[simp] theorem State.setSP_nmiLine (w : Byte) (s : State) : (s.setSP w).nmiLine = s.nmiLine := rfl
@[simp] theorem State.setSP_nmiPending (w : Byte) (s : State) : (s.setSP w).nmiPending = s.nmiPending := rfl
@[simp] theorem State.setSP_policy (w : Byte) (s : State) : (s.setSP w).policy = s.policy := rfl
@[simp] theorem State.setSP_cfg (w : Byte) (s : State) : (s.setSP w).cfg = s.cfg := rfl
@[simp] theorem State.setSP_mem (w : Byte) (s : State) : (s.setSP w).mem = s.mem := rfl
@[simp] theorem State.setSP_regions (w : Byte) (s : State) : (s.setSP w).regions = s.regions := rfl
@[simp] theorem State.setSP_deviceLog (w : Byte) (s : State) : (s.setSP w).deviceLog = s.deviceLog := rfl
@[simp] theorem State.setSP_faultMark (w : Byte) (s : State) : (s.setSP w).faultMark = s.faultMark := rfl
@[simp] theorem State.setSP_refusalMark (w : Byte) (s : State) : (s.setSP w).refusalMark = s.refusalMark := rfl

/-! ## setPC -/

@[simp] theorem State.setPC_a (w : Word) (s : State) : (s.setPC w).a = s.a := rfl
@[simp] theorem State.setPC_x (w : Word) (s : State) : (s.setPC w).x = s.x := rfl
@[simp] theorem State.setPC_y (w : Word) (s : State) : (s.setPC w).y = s.y := rfl
@[simp] theorem State.setPC_sp (w : Word) (s : State) : (s.setPC w).sp = s.sp := rfl
@[simp] theorem State.setPC_pc (w : Word) (s : State) : (s.setPC w).pc = w := rfl
@[simp] theorem State.setPC_c (w : Word) (s : State) : (s.setPC w).c = s.c := rfl
@[simp] theorem State.setPC_z (w : Word) (s : State) : (s.setPC w).z = s.z := rfl
@[simp] theorem State.setPC_i (w : Word) (s : State) : (s.setPC w).i = s.i := rfl
@[simp] theorem State.setPC_d (w : Word) (s : State) : (s.setPC w).d = s.d := rfl
@[simp] theorem State.setPC_b (w : Word) (s : State) : (s.setPC w).b = s.b := rfl
@[simp] theorem State.setPC_v (w : Word) (s : State) : (s.setPC w).v = s.v := rfl
@[simp] theorem State.setPC_n (w : Word) (s : State) : (s.setPC w).n = s.n := rfl
@[simp] theorem State.setPC_cyc (w : Word) (s : State) : (s.setPC w).cyc = s.cyc := rfl
@[simp] theorem State.setPC_resetLine (w : Word) (s : State) : (s.setPC w).resetLine = s.resetLine := rfl
@[simp] theorem State.setPC_irqLine (w : Word) (s : State) : (s.setPC w).irqLine = s.irqLine := rfl
@[simp] theorem State.setPC_nmiLine (w : Word) (s : State) : (s.setPC w).nmiLine = s.nmiLine := rfl
@[simp] theorem State.setPC_nmiPending (w : Word) (s : State) : (s.setPC w).nmiPending = s.nmiPending := rfl
@[simp] theorem State.setPC_policy (w : Word) (s : State) : (s.setPC w).policy = s.policy := rfl
@[simp] theorem State.setPC_cfg (w : Word) (s : State) : (s.setPC w).cfg = s.cfg := rfl
@[simp] theorem State.setPC_mem (w : Word) (s : State) : (s.setPC w).mem = s.mem := rfl
@[simp] theorem State.setPC_regions (w : Word) (s : State) : (s.setPC w).regions = s.regions := rfl
@[simp] theorem State.setPC_deviceLog (w : Word) (s : State) : (s.setPC w).deviceLog = s.deviceLog := rfl
@[simp] theorem State.setPC_faultMark (w : Word) (s : State) : (s.setPC w).faultMark = s.faultMark := rfl
@[simp] theorem State.setPC_refusalMark (w : Word) (s : State) : (s.setPC w).refusalMark = s.refusalMark := rfl

/-! ## setC -/

@[simp] theorem State.setC_a (f : Bool) (s : State) : (s.setC f).a = s.a := rfl
@[simp] theorem State.setC_x (f : Bool) (s : State) : (s.setC f).x = s.x := rfl
@[simp] theorem State.setC_y (f : Bool) (s : State) : (s.setC f).y = s.y := rfl
@[simp] theorem State.setC_sp (f : Bool) (s : State) : (s.setC f).sp = s.sp := rfl
@[simp] theorem State.setC_pc (f : Bool) (s : State) : (s.setC f).pc = s.pc := rfl
@[simp] theorem State.setC_c (f : Bool) (s : State) : (s.setC f).c = f := rfl
@[simp] theorem State.setC_z (f : Bool) (s : State) : (s.setC f).z = s.z := rfl
@[simp] theorem State.setC_i (f : Bool) (s : State) : (s.setC f).i = s.i := rfl
@[simp] theorem State.setC_d (f : Bool) (s : State) : (s.setC f).d = s.d := rfl
@[simp] theorem State.setC_b (f : Bool) (s : State) : (s.setC f).b = s.b := rfl
@[simp] theorem State.setC_v (f : Bool) (s : State) : (s.setC f).v = s.v := rfl
@[simp] theorem State.setC_n (f : Bool) (s : State) : (s.setC f).n = s.n := rfl
@[simp] theorem State.setC_cyc (f : Bool) (s : State) : (s.setC f).cyc = s.cyc := rfl
@[simp] theorem State.setC_resetLine (f : Bool) (s : State) : (s.setC f).resetLine = s.resetLine := rfl
@[simp] theorem State.setC_irqLine (f : Bool) (s : State) : (s.setC f).irqLine = s.irqLine := rfl
@[simp] theorem State.setC_nmiLine (f : Bool) (s : State) : (s.setC f).nmiLine = s.nmiLine := rfl
@[simp] theorem State.setC_nmiPending (f : Bool) (s : State) : (s.setC f).nmiPending = s.nmiPending := rfl
@[simp] theorem State.setC_policy (f : Bool) (s : State) : (s.setC f).policy = s.policy := rfl
@[simp] theorem State.setC_cfg (f : Bool) (s : State) : (s.setC f).cfg = s.cfg := rfl
@[simp] theorem State.setC_mem (f : Bool) (s : State) : (s.setC f).mem = s.mem := rfl
@[simp] theorem State.setC_regions (f : Bool) (s : State) : (s.setC f).regions = s.regions := rfl
@[simp] theorem State.setC_deviceLog (f : Bool) (s : State) : (s.setC f).deviceLog = s.deviceLog := rfl
@[simp] theorem State.setC_faultMark (f : Bool) (s : State) : (s.setC f).faultMark = s.faultMark := rfl
@[simp] theorem State.setC_refusalMark (f : Bool) (s : State) : (s.setC f).refusalMark = s.refusalMark := rfl

/-! ## setZ -/

@[simp] theorem State.setZ_a (f : Bool) (s : State) : (s.setZ f).a = s.a := rfl
@[simp] theorem State.setZ_x (f : Bool) (s : State) : (s.setZ f).x = s.x := rfl
@[simp] theorem State.setZ_y (f : Bool) (s : State) : (s.setZ f).y = s.y := rfl
@[simp] theorem State.setZ_sp (f : Bool) (s : State) : (s.setZ f).sp = s.sp := rfl
@[simp] theorem State.setZ_pc (f : Bool) (s : State) : (s.setZ f).pc = s.pc := rfl
@[simp] theorem State.setZ_c (f : Bool) (s : State) : (s.setZ f).c = s.c := rfl
@[simp] theorem State.setZ_z (f : Bool) (s : State) : (s.setZ f).z = f := rfl
@[simp] theorem State.setZ_i (f : Bool) (s : State) : (s.setZ f).i = s.i := rfl
@[simp] theorem State.setZ_d (f : Bool) (s : State) : (s.setZ f).d = s.d := rfl
@[simp] theorem State.setZ_b (f : Bool) (s : State) : (s.setZ f).b = s.b := rfl
@[simp] theorem State.setZ_v (f : Bool) (s : State) : (s.setZ f).v = s.v := rfl
@[simp] theorem State.setZ_n (f : Bool) (s : State) : (s.setZ f).n = s.n := rfl
@[simp] theorem State.setZ_cyc (f : Bool) (s : State) : (s.setZ f).cyc = s.cyc := rfl
@[simp] theorem State.setZ_resetLine (f : Bool) (s : State) : (s.setZ f).resetLine = s.resetLine := rfl
@[simp] theorem State.setZ_irqLine (f : Bool) (s : State) : (s.setZ f).irqLine = s.irqLine := rfl
@[simp] theorem State.setZ_nmiLine (f : Bool) (s : State) : (s.setZ f).nmiLine = s.nmiLine := rfl
@[simp] theorem State.setZ_nmiPending (f : Bool) (s : State) : (s.setZ f).nmiPending = s.nmiPending := rfl
@[simp] theorem State.setZ_policy (f : Bool) (s : State) : (s.setZ f).policy = s.policy := rfl
@[simp] theorem State.setZ_cfg (f : Bool) (s : State) : (s.setZ f).cfg = s.cfg := rfl
@[simp] theorem State.setZ_mem (f : Bool) (s : State) : (s.setZ f).mem = s.mem := rfl
@[simp] theorem State.setZ_regions (f : Bool) (s : State) : (s.setZ f).regions = s.regions := rfl
@[simp] theorem State.setZ_deviceLog (f : Bool) (s : State) : (s.setZ f).deviceLog = s.deviceLog := rfl
@[simp] theorem State.setZ_faultMark (f : Bool) (s : State) : (s.setZ f).faultMark = s.faultMark := rfl
@[simp] theorem State.setZ_refusalMark (f : Bool) (s : State) : (s.setZ f).refusalMark = s.refusalMark := rfl

/-! ## setI -/

@[simp] theorem State.setI_a (f : Bool) (s : State) : (s.setI f).a = s.a := rfl
@[simp] theorem State.setI_x (f : Bool) (s : State) : (s.setI f).x = s.x := rfl
@[simp] theorem State.setI_y (f : Bool) (s : State) : (s.setI f).y = s.y := rfl
@[simp] theorem State.setI_sp (f : Bool) (s : State) : (s.setI f).sp = s.sp := rfl
@[simp] theorem State.setI_pc (f : Bool) (s : State) : (s.setI f).pc = s.pc := rfl
@[simp] theorem State.setI_c (f : Bool) (s : State) : (s.setI f).c = s.c := rfl
@[simp] theorem State.setI_z (f : Bool) (s : State) : (s.setI f).z = s.z := rfl
@[simp] theorem State.setI_i (f : Bool) (s : State) : (s.setI f).i = f := rfl
@[simp] theorem State.setI_d (f : Bool) (s : State) : (s.setI f).d = s.d := rfl
@[simp] theorem State.setI_b (f : Bool) (s : State) : (s.setI f).b = s.b := rfl
@[simp] theorem State.setI_v (f : Bool) (s : State) : (s.setI f).v = s.v := rfl
@[simp] theorem State.setI_n (f : Bool) (s : State) : (s.setI f).n = s.n := rfl
@[simp] theorem State.setI_cyc (f : Bool) (s : State) : (s.setI f).cyc = s.cyc := rfl
@[simp] theorem State.setI_resetLine (f : Bool) (s : State) : (s.setI f).resetLine = s.resetLine := rfl
@[simp] theorem State.setI_irqLine (f : Bool) (s : State) : (s.setI f).irqLine = s.irqLine := rfl
@[simp] theorem State.setI_nmiLine (f : Bool) (s : State) : (s.setI f).nmiLine = s.nmiLine := rfl
@[simp] theorem State.setI_nmiPending (f : Bool) (s : State) : (s.setI f).nmiPending = s.nmiPending := rfl
@[simp] theorem State.setI_policy (f : Bool) (s : State) : (s.setI f).policy = s.policy := rfl
@[simp] theorem State.setI_cfg (f : Bool) (s : State) : (s.setI f).cfg = s.cfg := rfl
@[simp] theorem State.setI_mem (f : Bool) (s : State) : (s.setI f).mem = s.mem := rfl
@[simp] theorem State.setI_regions (f : Bool) (s : State) : (s.setI f).regions = s.regions := rfl
@[simp] theorem State.setI_deviceLog (f : Bool) (s : State) : (s.setI f).deviceLog = s.deviceLog := rfl
@[simp] theorem State.setI_faultMark (f : Bool) (s : State) : (s.setI f).faultMark = s.faultMark := rfl
@[simp] theorem State.setI_refusalMark (f : Bool) (s : State) : (s.setI f).refusalMark = s.refusalMark := rfl

/-! ## setD -/

@[simp] theorem State.setD_a (f : Bool) (s : State) : (s.setD f).a = s.a := rfl
@[simp] theorem State.setD_x (f : Bool) (s : State) : (s.setD f).x = s.x := rfl
@[simp] theorem State.setD_y (f : Bool) (s : State) : (s.setD f).y = s.y := rfl
@[simp] theorem State.setD_sp (f : Bool) (s : State) : (s.setD f).sp = s.sp := rfl
@[simp] theorem State.setD_pc (f : Bool) (s : State) : (s.setD f).pc = s.pc := rfl
@[simp] theorem State.setD_c (f : Bool) (s : State) : (s.setD f).c = s.c := rfl
@[simp] theorem State.setD_z (f : Bool) (s : State) : (s.setD f).z = s.z := rfl
@[simp] theorem State.setD_i (f : Bool) (s : State) : (s.setD f).i = s.i := rfl
@[simp] theorem State.setD_d (f : Bool) (s : State) : (s.setD f).d = f := rfl
@[simp] theorem State.setD_b (f : Bool) (s : State) : (s.setD f).b = s.b := rfl
@[simp] theorem State.setD_v (f : Bool) (s : State) : (s.setD f).v = s.v := rfl
@[simp] theorem State.setD_n (f : Bool) (s : State) : (s.setD f).n = s.n := rfl
@[simp] theorem State.setD_cyc (f : Bool) (s : State) : (s.setD f).cyc = s.cyc := rfl
@[simp] theorem State.setD_resetLine (f : Bool) (s : State) : (s.setD f).resetLine = s.resetLine := rfl
@[simp] theorem State.setD_irqLine (f : Bool) (s : State) : (s.setD f).irqLine = s.irqLine := rfl
@[simp] theorem State.setD_nmiLine (f : Bool) (s : State) : (s.setD f).nmiLine = s.nmiLine := rfl
@[simp] theorem State.setD_nmiPending (f : Bool) (s : State) : (s.setD f).nmiPending = s.nmiPending := rfl
@[simp] theorem State.setD_policy (f : Bool) (s : State) : (s.setD f).policy = s.policy := rfl
@[simp] theorem State.setD_cfg (f : Bool) (s : State) : (s.setD f).cfg = s.cfg := rfl
@[simp] theorem State.setD_mem (f : Bool) (s : State) : (s.setD f).mem = s.mem := rfl
@[simp] theorem State.setD_regions (f : Bool) (s : State) : (s.setD f).regions = s.regions := rfl
@[simp] theorem State.setD_deviceLog (f : Bool) (s : State) : (s.setD f).deviceLog = s.deviceLog := rfl
@[simp] theorem State.setD_faultMark (f : Bool) (s : State) : (s.setD f).faultMark = s.faultMark := rfl
@[simp] theorem State.setD_refusalMark (f : Bool) (s : State) : (s.setD f).refusalMark = s.refusalMark := rfl

/-! ## setB -/

@[simp] theorem State.setB_a (f : Bool) (s : State) : (s.setB f).a = s.a := rfl
@[simp] theorem State.setB_x (f : Bool) (s : State) : (s.setB f).x = s.x := rfl
@[simp] theorem State.setB_y (f : Bool) (s : State) : (s.setB f).y = s.y := rfl
@[simp] theorem State.setB_sp (f : Bool) (s : State) : (s.setB f).sp = s.sp := rfl
@[simp] theorem State.setB_pc (f : Bool) (s : State) : (s.setB f).pc = s.pc := rfl
@[simp] theorem State.setB_c (f : Bool) (s : State) : (s.setB f).c = s.c := rfl
@[simp] theorem State.setB_z (f : Bool) (s : State) : (s.setB f).z = s.z := rfl
@[simp] theorem State.setB_i (f : Bool) (s : State) : (s.setB f).i = s.i := rfl
@[simp] theorem State.setB_d (f : Bool) (s : State) : (s.setB f).d = s.d := rfl
@[simp] theorem State.setB_b (f : Bool) (s : State) : (s.setB f).b = f := rfl
@[simp] theorem State.setB_v (f : Bool) (s : State) : (s.setB f).v = s.v := rfl
@[simp] theorem State.setB_n (f : Bool) (s : State) : (s.setB f).n = s.n := rfl
@[simp] theorem State.setB_cyc (f : Bool) (s : State) : (s.setB f).cyc = s.cyc := rfl
@[simp] theorem State.setB_resetLine (f : Bool) (s : State) : (s.setB f).resetLine = s.resetLine := rfl
@[simp] theorem State.setB_irqLine (f : Bool) (s : State) : (s.setB f).irqLine = s.irqLine := rfl
@[simp] theorem State.setB_nmiLine (f : Bool) (s : State) : (s.setB f).nmiLine = s.nmiLine := rfl
@[simp] theorem State.setB_nmiPending (f : Bool) (s : State) : (s.setB f).nmiPending = s.nmiPending := rfl
@[simp] theorem State.setB_policy (f : Bool) (s : State) : (s.setB f).policy = s.policy := rfl
@[simp] theorem State.setB_cfg (f : Bool) (s : State) : (s.setB f).cfg = s.cfg := rfl
@[simp] theorem State.setB_mem (f : Bool) (s : State) : (s.setB f).mem = s.mem := rfl
@[simp] theorem State.setB_regions (f : Bool) (s : State) : (s.setB f).regions = s.regions := rfl
@[simp] theorem State.setB_deviceLog (f : Bool) (s : State) : (s.setB f).deviceLog = s.deviceLog := rfl
@[simp] theorem State.setB_faultMark (f : Bool) (s : State) : (s.setB f).faultMark = s.faultMark := rfl
@[simp] theorem State.setB_refusalMark (f : Bool) (s : State) : (s.setB f).refusalMark = s.refusalMark := rfl

/-! ## setV -/

@[simp] theorem State.setV_a (f : Bool) (s : State) : (s.setV f).a = s.a := rfl
@[simp] theorem State.setV_x (f : Bool) (s : State) : (s.setV f).x = s.x := rfl
@[simp] theorem State.setV_y (f : Bool) (s : State) : (s.setV f).y = s.y := rfl
@[simp] theorem State.setV_sp (f : Bool) (s : State) : (s.setV f).sp = s.sp := rfl
@[simp] theorem State.setV_pc (f : Bool) (s : State) : (s.setV f).pc = s.pc := rfl
@[simp] theorem State.setV_c (f : Bool) (s : State) : (s.setV f).c = s.c := rfl
@[simp] theorem State.setV_z (f : Bool) (s : State) : (s.setV f).z = s.z := rfl
@[simp] theorem State.setV_i (f : Bool) (s : State) : (s.setV f).i = s.i := rfl
@[simp] theorem State.setV_d (f : Bool) (s : State) : (s.setV f).d = s.d := rfl
@[simp] theorem State.setV_b (f : Bool) (s : State) : (s.setV f).b = s.b := rfl
@[simp] theorem State.setV_v (f : Bool) (s : State) : (s.setV f).v = f := rfl
@[simp] theorem State.setV_n (f : Bool) (s : State) : (s.setV f).n = s.n := rfl
@[simp] theorem State.setV_cyc (f : Bool) (s : State) : (s.setV f).cyc = s.cyc := rfl
@[simp] theorem State.setV_resetLine (f : Bool) (s : State) : (s.setV f).resetLine = s.resetLine := rfl
@[simp] theorem State.setV_irqLine (f : Bool) (s : State) : (s.setV f).irqLine = s.irqLine := rfl
@[simp] theorem State.setV_nmiLine (f : Bool) (s : State) : (s.setV f).nmiLine = s.nmiLine := rfl
@[simp] theorem State.setV_nmiPending (f : Bool) (s : State) : (s.setV f).nmiPending = s.nmiPending := rfl
@[simp] theorem State.setV_policy (f : Bool) (s : State) : (s.setV f).policy = s.policy := rfl
@[simp] theorem State.setV_cfg (f : Bool) (s : State) : (s.setV f).cfg = s.cfg := rfl
@[simp] theorem State.setV_mem (f : Bool) (s : State) : (s.setV f).mem = s.mem := rfl
@[simp] theorem State.setV_regions (f : Bool) (s : State) : (s.setV f).regions = s.regions := rfl
@[simp] theorem State.setV_deviceLog (f : Bool) (s : State) : (s.setV f).deviceLog = s.deviceLog := rfl
@[simp] theorem State.setV_faultMark (f : Bool) (s : State) : (s.setV f).faultMark = s.faultMark := rfl
@[simp] theorem State.setV_refusalMark (f : Bool) (s : State) : (s.setV f).refusalMark = s.refusalMark := rfl

/-! ## setN -/

@[simp] theorem State.setN_a (f : Bool) (s : State) : (s.setN f).a = s.a := rfl
@[simp] theorem State.setN_x (f : Bool) (s : State) : (s.setN f).x = s.x := rfl
@[simp] theorem State.setN_y (f : Bool) (s : State) : (s.setN f).y = s.y := rfl
@[simp] theorem State.setN_sp (f : Bool) (s : State) : (s.setN f).sp = s.sp := rfl
@[simp] theorem State.setN_pc (f : Bool) (s : State) : (s.setN f).pc = s.pc := rfl
@[simp] theorem State.setN_c (f : Bool) (s : State) : (s.setN f).c = s.c := rfl
@[simp] theorem State.setN_z (f : Bool) (s : State) : (s.setN f).z = s.z := rfl
@[simp] theorem State.setN_i (f : Bool) (s : State) : (s.setN f).i = s.i := rfl
@[simp] theorem State.setN_d (f : Bool) (s : State) : (s.setN f).d = s.d := rfl
@[simp] theorem State.setN_b (f : Bool) (s : State) : (s.setN f).b = s.b := rfl
@[simp] theorem State.setN_v (f : Bool) (s : State) : (s.setN f).v = s.v := rfl
@[simp] theorem State.setN_n (f : Bool) (s : State) : (s.setN f).n = f := rfl
@[simp] theorem State.setN_cyc (f : Bool) (s : State) : (s.setN f).cyc = s.cyc := rfl
@[simp] theorem State.setN_resetLine (f : Bool) (s : State) : (s.setN f).resetLine = s.resetLine := rfl
@[simp] theorem State.setN_irqLine (f : Bool) (s : State) : (s.setN f).irqLine = s.irqLine := rfl
@[simp] theorem State.setN_nmiLine (f : Bool) (s : State) : (s.setN f).nmiLine = s.nmiLine := rfl
@[simp] theorem State.setN_nmiPending (f : Bool) (s : State) : (s.setN f).nmiPending = s.nmiPending := rfl
@[simp] theorem State.setN_policy (f : Bool) (s : State) : (s.setN f).policy = s.policy := rfl
@[simp] theorem State.setN_cfg (f : Bool) (s : State) : (s.setN f).cfg = s.cfg := rfl
@[simp] theorem State.setN_mem (f : Bool) (s : State) : (s.setN f).mem = s.mem := rfl
@[simp] theorem State.setN_regions (f : Bool) (s : State) : (s.setN f).regions = s.regions := rfl
@[simp] theorem State.setN_deviceLog (f : Bool) (s : State) : (s.setN f).deviceLog = s.deviceLog := rfl
@[simp] theorem State.setN_faultMark (f : Bool) (s : State) : (s.setN f).faultMark = s.faultMark := rfl
@[simp] theorem State.setN_refusalMark (f : Bool) (s : State) : (s.setN f).refusalMark = s.refusalMark := rfl

/-! ## setNZ -/

@[simp] theorem State.setNZ_a (w : Byte) (s : State) : (s.setNZ w).a = s.a := rfl
@[simp] theorem State.setNZ_x (w : Byte) (s : State) : (s.setNZ w).x = s.x := rfl
@[simp] theorem State.setNZ_y (w : Byte) (s : State) : (s.setNZ w).y = s.y := rfl
@[simp] theorem State.setNZ_sp (w : Byte) (s : State) : (s.setNZ w).sp = s.sp := rfl
@[simp] theorem State.setNZ_pc (w : Byte) (s : State) : (s.setNZ w).pc = s.pc := rfl
@[simp] theorem State.setNZ_c (w : Byte) (s : State) : (s.setNZ w).c = s.c := rfl
@[simp] theorem State.setNZ_z (w : Byte) (s : State) : (s.setNZ w).z = (w == 0) := rfl
@[simp] theorem State.setNZ_i (w : Byte) (s : State) : (s.setNZ w).i = s.i := rfl
@[simp] theorem State.setNZ_d (w : Byte) (s : State) : (s.setNZ w).d = s.d := rfl
@[simp] theorem State.setNZ_b (w : Byte) (s : State) : (s.setNZ w).b = s.b := rfl
@[simp] theorem State.setNZ_v (w : Byte) (s : State) : (s.setNZ w).v = s.v := rfl
@[simp] theorem State.setNZ_n (w : Byte) (s : State) : (s.setNZ w).n = w.msb := rfl
@[simp] theorem State.setNZ_cyc (w : Byte) (s : State) : (s.setNZ w).cyc = s.cyc := rfl
@[simp] theorem State.setNZ_resetLine (w : Byte) (s : State) : (s.setNZ w).resetLine = s.resetLine := rfl
@[simp] theorem State.setNZ_irqLine (w : Byte) (s : State) : (s.setNZ w).irqLine = s.irqLine := rfl
@[simp] theorem State.setNZ_nmiLine (w : Byte) (s : State) : (s.setNZ w).nmiLine = s.nmiLine := rfl
@[simp] theorem State.setNZ_nmiPending (w : Byte) (s : State) : (s.setNZ w).nmiPending = s.nmiPending := rfl
@[simp] theorem State.setNZ_policy (w : Byte) (s : State) : (s.setNZ w).policy = s.policy := rfl
@[simp] theorem State.setNZ_cfg (w : Byte) (s : State) : (s.setNZ w).cfg = s.cfg := rfl
@[simp] theorem State.setNZ_mem (w : Byte) (s : State) : (s.setNZ w).mem = s.mem := rfl
@[simp] theorem State.setNZ_regions (w : Byte) (s : State) : (s.setNZ w).regions = s.regions := rfl
@[simp] theorem State.setNZ_deviceLog (w : Byte) (s : State) : (s.setNZ w).deviceLog = s.deviceLog := rfl
@[simp] theorem State.setNZ_faultMark (w : Byte) (s : State) : (s.setNZ w).faultMark = s.faultMark := rfl
@[simp] theorem State.setNZ_refusalMark (w : Byte) (s : State) : (s.setNZ w).refusalMark = s.refusalMark := rfl

/-! ## unpack -/

@[simp] theorem State.unpack_a (w : Byte) (s : State) : (s.unpack w).a = s.a := rfl
@[simp] theorem State.unpack_x (w : Byte) (s : State) : (s.unpack w).x = s.x := rfl
@[simp] theorem State.unpack_y (w : Byte) (s : State) : (s.unpack w).y = s.y := rfl
@[simp] theorem State.unpack_sp (w : Byte) (s : State) : (s.unpack w).sp = s.sp := rfl
@[simp] theorem State.unpack_pc (w : Byte) (s : State) : (s.unpack w).pc = s.pc := rfl
@[simp] theorem State.unpack_c (w : Byte) (s : State) : (s.unpack w).c = w.getLsbD 0 := rfl
@[simp] theorem State.unpack_z (w : Byte) (s : State) : (s.unpack w).z = w.getLsbD 1 := rfl
@[simp] theorem State.unpack_i (w : Byte) (s : State) : (s.unpack w).i = w.getLsbD 2 := rfl
@[simp] theorem State.unpack_d (w : Byte) (s : State) : (s.unpack w).d = w.getLsbD 3 := rfl
@[simp] theorem State.unpack_b (w : Byte) (s : State) : (s.unpack w).b = w.getLsbD 4 := rfl
@[simp] theorem State.unpack_v (w : Byte) (s : State) : (s.unpack w).v = w.getLsbD 6 := rfl
@[simp] theorem State.unpack_n (w : Byte) (s : State) : (s.unpack w).n = w.getLsbD 7 := rfl
@[simp] theorem State.unpack_cyc (w : Byte) (s : State) : (s.unpack w).cyc = s.cyc := rfl
@[simp] theorem State.unpack_resetLine (w : Byte) (s : State) : (s.unpack w).resetLine = s.resetLine := rfl
@[simp] theorem State.unpack_irqLine (w : Byte) (s : State) : (s.unpack w).irqLine = s.irqLine := rfl
@[simp] theorem State.unpack_nmiLine (w : Byte) (s : State) : (s.unpack w).nmiLine = s.nmiLine := rfl
@[simp] theorem State.unpack_nmiPending (w : Byte) (s : State) : (s.unpack w).nmiPending = s.nmiPending := rfl
@[simp] theorem State.unpack_policy (w : Byte) (s : State) : (s.unpack w).policy = s.policy := rfl
@[simp] theorem State.unpack_cfg (w : Byte) (s : State) : (s.unpack w).cfg = s.cfg := rfl
@[simp] theorem State.unpack_mem (w : Byte) (s : State) : (s.unpack w).mem = s.mem := rfl
@[simp] theorem State.unpack_regions (w : Byte) (s : State) : (s.unpack w).regions = s.regions := rfl
@[simp] theorem State.unpack_deviceLog (w : Byte) (s : State) : (s.unpack w).deviceLog = s.deviceLog := rfl
@[simp] theorem State.unpack_faultMark (w : Byte) (s : State) : (s.unpack w).faultMark = s.faultMark := rfl
@[simp] theorem State.unpack_refusalMark (w : Byte) (s : State) : (s.unpack w).refusalMark = s.refusalMark := rfl

/-! ## clearNmi -/

@[simp] theorem State.clearNmi_a (s : State) : (s.clearNmi).a = s.a := rfl
@[simp] theorem State.clearNmi_x (s : State) : (s.clearNmi).x = s.x := rfl
@[simp] theorem State.clearNmi_y (s : State) : (s.clearNmi).y = s.y := rfl
@[simp] theorem State.clearNmi_sp (s : State) : (s.clearNmi).sp = s.sp := rfl
@[simp] theorem State.clearNmi_pc (s : State) : (s.clearNmi).pc = s.pc := rfl
@[simp] theorem State.clearNmi_c (s : State) : (s.clearNmi).c = s.c := rfl
@[simp] theorem State.clearNmi_z (s : State) : (s.clearNmi).z = s.z := rfl
@[simp] theorem State.clearNmi_i (s : State) : (s.clearNmi).i = s.i := rfl
@[simp] theorem State.clearNmi_d (s : State) : (s.clearNmi).d = s.d := rfl
@[simp] theorem State.clearNmi_b (s : State) : (s.clearNmi).b = s.b := rfl
@[simp] theorem State.clearNmi_v (s : State) : (s.clearNmi).v = s.v := rfl
@[simp] theorem State.clearNmi_n (s : State) : (s.clearNmi).n = s.n := rfl
@[simp] theorem State.clearNmi_cyc (s : State) : (s.clearNmi).cyc = s.cyc := rfl
@[simp] theorem State.clearNmi_resetLine (s : State) : (s.clearNmi).resetLine = s.resetLine := rfl
@[simp] theorem State.clearNmi_irqLine (s : State) : (s.clearNmi).irqLine = s.irqLine := rfl
@[simp] theorem State.clearNmi_nmiLine (s : State) : (s.clearNmi).nmiLine = s.nmiLine := rfl
@[simp] theorem State.clearNmi_nmiPending (s : State) : (s.clearNmi).nmiPending = false := rfl
@[simp] theorem State.clearNmi_policy (s : State) : (s.clearNmi).policy = s.policy := rfl
@[simp] theorem State.clearNmi_cfg (s : State) : (s.clearNmi).cfg = s.cfg := rfl
@[simp] theorem State.clearNmi_mem (s : State) : (s.clearNmi).mem = s.mem := rfl
@[simp] theorem State.clearNmi_regions (s : State) : (s.clearNmi).regions = s.regions := rfl
@[simp] theorem State.clearNmi_deviceLog (s : State) : (s.clearNmi).deviceLog = s.deviceLog := rfl
@[simp] theorem State.clearNmi_faultMark (s : State) : (s.clearNmi).faultMark = s.faultMark := rfl
@[simp] theorem State.clearNmi_refusalMark (s : State) : (s.clearNmi).refusalMark = s.refusalMark := rfl

/-! ## setMem -/

@[simp] theorem State.setMem_a (m : Memory) (s : State) : (s.setMem m).a = s.a := rfl
@[simp] theorem State.setMem_x (m : Memory) (s : State) : (s.setMem m).x = s.x := rfl
@[simp] theorem State.setMem_y (m : Memory) (s : State) : (s.setMem m).y = s.y := rfl
@[simp] theorem State.setMem_sp (m : Memory) (s : State) : (s.setMem m).sp = s.sp := rfl
@[simp] theorem State.setMem_pc (m : Memory) (s : State) : (s.setMem m).pc = s.pc := rfl
@[simp] theorem State.setMem_c (m : Memory) (s : State) : (s.setMem m).c = s.c := rfl
@[simp] theorem State.setMem_z (m : Memory) (s : State) : (s.setMem m).z = s.z := rfl
@[simp] theorem State.setMem_i (m : Memory) (s : State) : (s.setMem m).i = s.i := rfl
@[simp] theorem State.setMem_d (m : Memory) (s : State) : (s.setMem m).d = s.d := rfl
@[simp] theorem State.setMem_b (m : Memory) (s : State) : (s.setMem m).b = s.b := rfl
@[simp] theorem State.setMem_v (m : Memory) (s : State) : (s.setMem m).v = s.v := rfl
@[simp] theorem State.setMem_n (m : Memory) (s : State) : (s.setMem m).n = s.n := rfl
@[simp] theorem State.setMem_cyc (m : Memory) (s : State) : (s.setMem m).cyc = s.cyc := rfl
@[simp] theorem State.setMem_resetLine (m : Memory) (s : State) : (s.setMem m).resetLine = s.resetLine := rfl
@[simp] theorem State.setMem_irqLine (m : Memory) (s : State) : (s.setMem m).irqLine = s.irqLine := rfl
@[simp] theorem State.setMem_nmiLine (m : Memory) (s : State) : (s.setMem m).nmiLine = s.nmiLine := rfl
@[simp] theorem State.setMem_nmiPending (m : Memory) (s : State) : (s.setMem m).nmiPending = s.nmiPending := rfl
@[simp] theorem State.setMem_policy (m : Memory) (s : State) : (s.setMem m).policy = s.policy := rfl
@[simp] theorem State.setMem_cfg (m : Memory) (s : State) : (s.setMem m).cfg = s.cfg := rfl
@[simp] theorem State.setMem_mem (m : Memory) (s : State) : (s.setMem m).mem = m := rfl
@[simp] theorem State.setMem_regions (m : Memory) (s : State) : (s.setMem m).regions = s.regions := rfl
@[simp] theorem State.setMem_deviceLog (m : Memory) (s : State) : (s.setMem m).deviceLog = s.deviceLog := rfl
@[simp] theorem State.setMem_faultMark (m : Memory) (s : State) : (s.setMem m).faultMark = s.faultMark := rfl
@[simp] theorem State.setMem_refusalMark (m : Memory) (s : State) : (s.setMem m).refusalMark = s.refusalMark := rfl

/-! ## logAccess -/

@[simp] theorem State.logAccess_a (acc : BusAccess) (s : State) : (s.logAccess acc).a = s.a := rfl
@[simp] theorem State.logAccess_x (acc : BusAccess) (s : State) : (s.logAccess acc).x = s.x := rfl
@[simp] theorem State.logAccess_y (acc : BusAccess) (s : State) : (s.logAccess acc).y = s.y := rfl
@[simp] theorem State.logAccess_sp (acc : BusAccess) (s : State) : (s.logAccess acc).sp = s.sp := rfl
@[simp] theorem State.logAccess_pc (acc : BusAccess) (s : State) : (s.logAccess acc).pc = s.pc := rfl
@[simp] theorem State.logAccess_c (acc : BusAccess) (s : State) : (s.logAccess acc).c = s.c := rfl
@[simp] theorem State.logAccess_z (acc : BusAccess) (s : State) : (s.logAccess acc).z = s.z := rfl
@[simp] theorem State.logAccess_i (acc : BusAccess) (s : State) : (s.logAccess acc).i = s.i := rfl
@[simp] theorem State.logAccess_d (acc : BusAccess) (s : State) : (s.logAccess acc).d = s.d := rfl
@[simp] theorem State.logAccess_b (acc : BusAccess) (s : State) : (s.logAccess acc).b = s.b := rfl
@[simp] theorem State.logAccess_v (acc : BusAccess) (s : State) : (s.logAccess acc).v = s.v := rfl
@[simp] theorem State.logAccess_n (acc : BusAccess) (s : State) : (s.logAccess acc).n = s.n := rfl
@[simp] theorem State.logAccess_cyc (acc : BusAccess) (s : State) : (s.logAccess acc).cyc = s.cyc := rfl
@[simp] theorem State.logAccess_resetLine (acc : BusAccess) (s : State) :
    (s.logAccess acc).resetLine = s.resetLine := rfl
@[simp] theorem State.logAccess_irqLine (acc : BusAccess) (s : State) : (s.logAccess acc).irqLine = s.irqLine := rfl
@[simp] theorem State.logAccess_nmiLine (acc : BusAccess) (s : State) : (s.logAccess acc).nmiLine = s.nmiLine := rfl
@[simp] theorem State.logAccess_nmiPending (acc : BusAccess) (s : State) :
    (s.logAccess acc).nmiPending = s.nmiPending := rfl
@[simp] theorem State.logAccess_policy (acc : BusAccess) (s : State) : (s.logAccess acc).policy = s.policy := rfl
@[simp] theorem State.logAccess_cfg (acc : BusAccess) (s : State) : (s.logAccess acc).cfg = s.cfg := rfl
@[simp] theorem State.logAccess_mem (acc : BusAccess) (s : State) : (s.logAccess acc).mem = s.mem := rfl
@[simp] theorem State.logAccess_regions (acc : BusAccess) (s : State) : (s.logAccess acc).regions = s.regions := rfl
@[simp] theorem State.logAccess_deviceLog (acc : BusAccess) (s : State) :
    (s.logAccess acc).deviceLog = acc :: s.deviceLog := rfl
@[simp] theorem State.logAccess_faultMark (acc : BusAccess) (s : State) :
    (s.logAccess acc).faultMark = s.faultMark := rfl
@[simp] theorem State.logAccess_refusalMark (acc : BusAccess) (s : State) :
    (s.logAccess acc).refusalMark = s.refusalMark := rfl

/-! ## markFault -/

@[simp] theorem State.markFault_a (s : State) : (s.markFault).a = s.a := rfl
@[simp] theorem State.markFault_x (s : State) : (s.markFault).x = s.x := rfl
@[simp] theorem State.markFault_y (s : State) : (s.markFault).y = s.y := rfl
@[simp] theorem State.markFault_sp (s : State) : (s.markFault).sp = s.sp := rfl
@[simp] theorem State.markFault_pc (s : State) : (s.markFault).pc = s.pc := rfl
@[simp] theorem State.markFault_c (s : State) : (s.markFault).c = s.c := rfl
@[simp] theorem State.markFault_z (s : State) : (s.markFault).z = s.z := rfl
@[simp] theorem State.markFault_i (s : State) : (s.markFault).i = s.i := rfl
@[simp] theorem State.markFault_d (s : State) : (s.markFault).d = s.d := rfl
@[simp] theorem State.markFault_b (s : State) : (s.markFault).b = s.b := rfl
@[simp] theorem State.markFault_v (s : State) : (s.markFault).v = s.v := rfl
@[simp] theorem State.markFault_n (s : State) : (s.markFault).n = s.n := rfl
@[simp] theorem State.markFault_cyc (s : State) : (s.markFault).cyc = s.cyc := rfl
@[simp] theorem State.markFault_resetLine (s : State) : (s.markFault).resetLine = s.resetLine := rfl
@[simp] theorem State.markFault_irqLine (s : State) : (s.markFault).irqLine = s.irqLine := rfl
@[simp] theorem State.markFault_nmiLine (s : State) : (s.markFault).nmiLine = s.nmiLine := rfl
@[simp] theorem State.markFault_nmiPending (s : State) : (s.markFault).nmiPending = s.nmiPending := rfl
@[simp] theorem State.markFault_policy (s : State) : (s.markFault).policy = s.policy := rfl
@[simp] theorem State.markFault_cfg (s : State) : (s.markFault).cfg = s.cfg := rfl
@[simp] theorem State.markFault_mem (s : State) : (s.markFault).mem = s.mem := rfl
@[simp] theorem State.markFault_regions (s : State) : (s.markFault).regions = s.regions := rfl
@[simp] theorem State.markFault_deviceLog (s : State) : (s.markFault).deviceLog = s.deviceLog := rfl
@[simp] theorem State.markFault_faultMark (s : State) : (s.markFault).faultMark = true := rfl
@[simp] theorem State.markFault_refusalMark (s : State) : (s.markFault).refusalMark = s.refusalMark := rfl

/-! ## markRefusal -/

@[simp] theorem State.markRefusal_a (s : State) : (s.markRefusal).a = s.a := rfl
@[simp] theorem State.markRefusal_x (s : State) : (s.markRefusal).x = s.x := rfl
@[simp] theorem State.markRefusal_y (s : State) : (s.markRefusal).y = s.y := rfl
@[simp] theorem State.markRefusal_sp (s : State) : (s.markRefusal).sp = s.sp := rfl
@[simp] theorem State.markRefusal_pc (s : State) : (s.markRefusal).pc = s.pc := rfl
@[simp] theorem State.markRefusal_c (s : State) : (s.markRefusal).c = s.c := rfl
@[simp] theorem State.markRefusal_z (s : State) : (s.markRefusal).z = s.z := rfl
@[simp] theorem State.markRefusal_i (s : State) : (s.markRefusal).i = s.i := rfl
@[simp] theorem State.markRefusal_d (s : State) : (s.markRefusal).d = s.d := rfl
@[simp] theorem State.markRefusal_b (s : State) : (s.markRefusal).b = s.b := rfl
@[simp] theorem State.markRefusal_v (s : State) : (s.markRefusal).v = s.v := rfl
@[simp] theorem State.markRefusal_n (s : State) : (s.markRefusal).n = s.n := rfl
@[simp] theorem State.markRefusal_cyc (s : State) : (s.markRefusal).cyc = s.cyc := rfl
@[simp] theorem State.markRefusal_resetLine (s : State) : (s.markRefusal).resetLine = s.resetLine := rfl
@[simp] theorem State.markRefusal_irqLine (s : State) : (s.markRefusal).irqLine = s.irqLine := rfl
@[simp] theorem State.markRefusal_nmiLine (s : State) : (s.markRefusal).nmiLine = s.nmiLine := rfl
@[simp] theorem State.markRefusal_nmiPending (s : State) : (s.markRefusal).nmiPending = s.nmiPending := rfl
@[simp] theorem State.markRefusal_policy (s : State) : (s.markRefusal).policy = s.policy := rfl
@[simp] theorem State.markRefusal_cfg (s : State) : (s.markRefusal).cfg = s.cfg := rfl
@[simp] theorem State.markRefusal_mem (s : State) : (s.markRefusal).mem = s.mem := rfl
@[simp] theorem State.markRefusal_regions (s : State) : (s.markRefusal).regions = s.regions := rfl
@[simp] theorem State.markRefusal_deviceLog (s : State) : (s.markRefusal).deviceLog = s.deviceLog := rfl
@[simp] theorem State.markRefusal_faultMark (s : State) : (s.markRefusal).faultMark = s.faultMark := rfl
@[simp] theorem State.markRefusal_refusalMark (s : State) : (s.markRefusal).refusalMark = true := rfl

end Sys2Proof.Machine
end

