-- ==== Sys2Proof/Laws/Ops.lean ====
section
/-! SUPPORT. What each shared operation can do, said once: sequencing, the bus, the stack, fetch, trap entry and
return. Callers cite these and never unfold the operation. -/

namespace Sys2Proof.Machine

/-! ## Sequencing -/

@[simp] theorem seq_next {α : Type} (s : State) (k : State → Result α) : seq (.next s) k = k s := rfl
@[simp] theorem seq_fault {α : Type} (f : Fault) (k : State → Result α) : seq (.fault f) k = .fault f := rfl
@[simp] theorem seq_refused {α : Type} (f : Refusal) (k : State → Result α) : seq (.refused f) k = .refused f := rfl
@[simp] theorem bindVal_next {α β : Type} (a : α) (s : State) (k : α → State → Result β) :
    bindVal (.next (a, s)) k = k a s := rfl
@[simp] theorem bindVal_fault {α β : Type} (f : Fault) (k : α → State → Result β) :
    bindVal (.fault f) k = .fault f := rfl
@[simp] theorem bindVal_refused {α β : Type} (f : Refusal) (k : α → State → Result β) :
    bindVal (.refused f) k = .refused f := rfl

theorem seq_eq_next {α : Type} {r : Result State} {k : State → Result α} {p : α} :
    seq r k = .next p ↔ ∃ t, r = .next t ∧ k t = .next p := by
  cases r <;> simp

theorem bindVal_eq_next {α β : Type} {r : Result (α × State)} {k : α → State → Result β} {p : β} :
    bindVal r k = .next p ↔ ∃ a t, r = .next (a, t) ∧ k a t = .next p := by
  cases r with
  | next q => obtain ⟨a, t⟩ := q; simp
  | fault f => simp
  | refused f => simp

theorem seq_eq_fault {α : Type} {r : Result State} {k : State → Result α} {f : Fault} :
    seq r k = .fault f ↔ r = .fault f ∨ ∃ t, r = .next t ∧ k t = .fault f := by
  cases r <;> simp

theorem bindVal_eq_fault {α β : Type} {r : Result (α × State)} {k : α → State → Result β} {f : Fault} :
    bindVal r k = .fault f ↔ r = .fault f ∨ ∃ a t, r = .next (a, t) ∧ k a t = .fault f := by
  cases r with
  | next q => obtain ⟨a, t⟩ := q; simp
  | fault f => simp
  | refused f => simp

/-! ## Ticks -/

@[simp] theorem State.tick_zero (s : State) : s.tick 0 = s := by
  simp [State.tick]

@[simp] theorem State.tick_tick (j k : Nat) (s : State) : (s.tick j).tick k = s.tick (j + k) := by
  simp [State.tick, BitVec.ofNat_add, BitVec.add_assoc]

/-! ## What stands behind an address, under the updates -/

@[simp] theorem State.kindAt_tick (k : Nat) (s : State) (b : Word) : (s.tick k).kindAt b = s.kindAt b := rfl
@[simp] theorem State.readable_tick (k : Nat) (s : State) (b : Word) : (s.tick k).readable b = s.readable b := rfl
@[simp] theorem State.writable_tick (k : Nat) (s : State) (b : Word) : (s.tick k).writable b = s.writable b := rfl
@[simp] theorem State.refusesRead_tick (k : Nat) (s : State) (b : Word) :
    (s.tick k).refusesRead b = s.refusesRead b := rfl
@[simp] theorem State.refusesWrite_tick (k : Nat) (s : State) (b : Word) :
    (s.tick k).refusesWrite b = s.refusesWrite b := rfl
@[simp] theorem State.peek_tick (k : Nat) (s : State) (b : Word) : (s.tick k).peek b = s.peek b := rfl
@[simp] theorem State.kindAt_setA (w : Byte) (s : State) (b : Word) : (s.setA w).kindAt b = s.kindAt b := rfl
@[simp] theorem State.readable_setA (w : Byte) (s : State) (b : Word) : (s.setA w).readable b = s.readable b := rfl
@[simp] theorem State.writable_setA (w : Byte) (s : State) (b : Word) : (s.setA w).writable b = s.writable b := rfl
@[simp] theorem State.refusesRead_setA (w : Byte) (s : State) (b : Word) :
    (s.setA w).refusesRead b = s.refusesRead b := rfl
@[simp] theorem State.refusesWrite_setA (w : Byte) (s : State) (b : Word) :
    (s.setA w).refusesWrite b = s.refusesWrite b := rfl
@[simp] theorem State.peek_setA (w : Byte) (s : State) (b : Word) : (s.setA w).peek b = s.peek b := rfl
@[simp] theorem State.kindAt_setX (w : Byte) (s : State) (b : Word) : (s.setX w).kindAt b = s.kindAt b := rfl
@[simp] theorem State.readable_setX (w : Byte) (s : State) (b : Word) : (s.setX w).readable b = s.readable b := rfl
@[simp] theorem State.writable_setX (w : Byte) (s : State) (b : Word) : (s.setX w).writable b = s.writable b := rfl
@[simp] theorem State.refusesRead_setX (w : Byte) (s : State) (b : Word) :
    (s.setX w).refusesRead b = s.refusesRead b := rfl
@[simp] theorem State.refusesWrite_setX (w : Byte) (s : State) (b : Word) :
    (s.setX w).refusesWrite b = s.refusesWrite b := rfl
@[simp] theorem State.peek_setX (w : Byte) (s : State) (b : Word) : (s.setX w).peek b = s.peek b := rfl
@[simp] theorem State.kindAt_setY (w : Byte) (s : State) (b : Word) : (s.setY w).kindAt b = s.kindAt b := rfl
@[simp] theorem State.readable_setY (w : Byte) (s : State) (b : Word) : (s.setY w).readable b = s.readable b := rfl
@[simp] theorem State.writable_setY (w : Byte) (s : State) (b : Word) : (s.setY w).writable b = s.writable b := rfl
@[simp] theorem State.refusesRead_setY (w : Byte) (s : State) (b : Word) :
    (s.setY w).refusesRead b = s.refusesRead b := rfl
@[simp] theorem State.refusesWrite_setY (w : Byte) (s : State) (b : Word) :
    (s.setY w).refusesWrite b = s.refusesWrite b := rfl
@[simp] theorem State.peek_setY (w : Byte) (s : State) (b : Word) : (s.setY w).peek b = s.peek b := rfl
@[simp] theorem State.kindAt_setSP (w : Byte) (s : State) (b : Word) : (s.setSP w).kindAt b = s.kindAt b := rfl
@[simp] theorem State.readable_setSP (w : Byte) (s : State) (b : Word) : (s.setSP w).readable b = s.readable b := rfl
@[simp] theorem State.writable_setSP (w : Byte) (s : State) (b : Word) : (s.setSP w).writable b = s.writable b := rfl
@[simp] theorem State.refusesRead_setSP (w : Byte) (s : State) (b : Word) :
    (s.setSP w).refusesRead b = s.refusesRead b := rfl
@[simp] theorem State.refusesWrite_setSP (w : Byte) (s : State) (b : Word) :
    (s.setSP w).refusesWrite b = s.refusesWrite b := rfl
@[simp] theorem State.peek_setSP (w : Byte) (s : State) (b : Word) : (s.setSP w).peek b = s.peek b := rfl
@[simp] theorem State.kindAt_setPC (w : Word) (s : State) (b : Word) : (s.setPC w).kindAt b = s.kindAt b := rfl
@[simp] theorem State.readable_setPC (w : Word) (s : State) (b : Word) : (s.setPC w).readable b = s.readable b := rfl
@[simp] theorem State.writable_setPC (w : Word) (s : State) (b : Word) : (s.setPC w).writable b = s.writable b := rfl
@[simp] theorem State.refusesRead_setPC (w : Word) (s : State) (b : Word) :
    (s.setPC w).refusesRead b = s.refusesRead b := rfl
@[simp] theorem State.refusesWrite_setPC (w : Word) (s : State) (b : Word) :
    (s.setPC w).refusesWrite b = s.refusesWrite b := rfl
@[simp] theorem State.peek_setPC (w : Word) (s : State) (b : Word) : (s.setPC w).peek b = s.peek b := rfl
@[simp] theorem State.kindAt_setC (f : Bool) (s : State) (b : Word) : (s.setC f).kindAt b = s.kindAt b := rfl
@[simp] theorem State.readable_setC (f : Bool) (s : State) (b : Word) : (s.setC f).readable b = s.readable b := rfl
@[simp] theorem State.writable_setC (f : Bool) (s : State) (b : Word) : (s.setC f).writable b = s.writable b := rfl
@[simp] theorem State.refusesRead_setC (f : Bool) (s : State) (b : Word) :
    (s.setC f).refusesRead b = s.refusesRead b := rfl
@[simp] theorem State.refusesWrite_setC (f : Bool) (s : State) (b : Word) :
    (s.setC f).refusesWrite b = s.refusesWrite b := rfl
@[simp] theorem State.peek_setC (f : Bool) (s : State) (b : Word) : (s.setC f).peek b = s.peek b := rfl
@[simp] theorem State.kindAt_setZ (f : Bool) (s : State) (b : Word) : (s.setZ f).kindAt b = s.kindAt b := rfl
@[simp] theorem State.readable_setZ (f : Bool) (s : State) (b : Word) : (s.setZ f).readable b = s.readable b := rfl
@[simp] theorem State.writable_setZ (f : Bool) (s : State) (b : Word) : (s.setZ f).writable b = s.writable b := rfl
@[simp] theorem State.refusesRead_setZ (f : Bool) (s : State) (b : Word) :
    (s.setZ f).refusesRead b = s.refusesRead b := rfl
@[simp] theorem State.refusesWrite_setZ (f : Bool) (s : State) (b : Word) :
    (s.setZ f).refusesWrite b = s.refusesWrite b := rfl
@[simp] theorem State.peek_setZ (f : Bool) (s : State) (b : Word) : (s.setZ f).peek b = s.peek b := rfl
@[simp] theorem State.kindAt_setI (f : Bool) (s : State) (b : Word) : (s.setI f).kindAt b = s.kindAt b := rfl
@[simp] theorem State.readable_setI (f : Bool) (s : State) (b : Word) : (s.setI f).readable b = s.readable b := rfl
@[simp] theorem State.writable_setI (f : Bool) (s : State) (b : Word) : (s.setI f).writable b = s.writable b := rfl
@[simp] theorem State.refusesRead_setI (f : Bool) (s : State) (b : Word) :
    (s.setI f).refusesRead b = s.refusesRead b := rfl
@[simp] theorem State.refusesWrite_setI (f : Bool) (s : State) (b : Word) :
    (s.setI f).refusesWrite b = s.refusesWrite b := rfl
@[simp] theorem State.peek_setI (f : Bool) (s : State) (b : Word) : (s.setI f).peek b = s.peek b := rfl
@[simp] theorem State.kindAt_setD (f : Bool) (s : State) (b : Word) : (s.setD f).kindAt b = s.kindAt b := rfl
@[simp] theorem State.readable_setD (f : Bool) (s : State) (b : Word) : (s.setD f).readable b = s.readable b := rfl
@[simp] theorem State.writable_setD (f : Bool) (s : State) (b : Word) : (s.setD f).writable b = s.writable b := rfl
@[simp] theorem State.refusesRead_setD (f : Bool) (s : State) (b : Word) :
    (s.setD f).refusesRead b = s.refusesRead b := rfl
@[simp] theorem State.refusesWrite_setD (f : Bool) (s : State) (b : Word) :
    (s.setD f).refusesWrite b = s.refusesWrite b := rfl
@[simp] theorem State.peek_setD (f : Bool) (s : State) (b : Word) : (s.setD f).peek b = s.peek b := rfl
@[simp] theorem State.kindAt_setB (f : Bool) (s : State) (b : Word) : (s.setB f).kindAt b = s.kindAt b := rfl
@[simp] theorem State.readable_setB (f : Bool) (s : State) (b : Word) : (s.setB f).readable b = s.readable b := rfl
@[simp] theorem State.writable_setB (f : Bool) (s : State) (b : Word) : (s.setB f).writable b = s.writable b := rfl
@[simp] theorem State.refusesRead_setB (f : Bool) (s : State) (b : Word) :
    (s.setB f).refusesRead b = s.refusesRead b := rfl
@[simp] theorem State.refusesWrite_setB (f : Bool) (s : State) (b : Word) :
    (s.setB f).refusesWrite b = s.refusesWrite b := rfl
@[simp] theorem State.peek_setB (f : Bool) (s : State) (b : Word) : (s.setB f).peek b = s.peek b := rfl
@[simp] theorem State.kindAt_setV (f : Bool) (s : State) (b : Word) : (s.setV f).kindAt b = s.kindAt b := rfl
@[simp] theorem State.readable_setV (f : Bool) (s : State) (b : Word) : (s.setV f).readable b = s.readable b := rfl
@[simp] theorem State.writable_setV (f : Bool) (s : State) (b : Word) : (s.setV f).writable b = s.writable b := rfl
@[simp] theorem State.refusesRead_setV (f : Bool) (s : State) (b : Word) :
    (s.setV f).refusesRead b = s.refusesRead b := rfl
@[simp] theorem State.refusesWrite_setV (f : Bool) (s : State) (b : Word) :
    (s.setV f).refusesWrite b = s.refusesWrite b := rfl
@[simp] theorem State.peek_setV (f : Bool) (s : State) (b : Word) : (s.setV f).peek b = s.peek b := rfl
@[simp] theorem State.kindAt_setN (f : Bool) (s : State) (b : Word) : (s.setN f).kindAt b = s.kindAt b := rfl
@[simp] theorem State.readable_setN (f : Bool) (s : State) (b : Word) : (s.setN f).readable b = s.readable b := rfl
@[simp] theorem State.writable_setN (f : Bool) (s : State) (b : Word) : (s.setN f).writable b = s.writable b := rfl
@[simp] theorem State.refusesRead_setN (f : Bool) (s : State) (b : Word) :
    (s.setN f).refusesRead b = s.refusesRead b := rfl
@[simp] theorem State.refusesWrite_setN (f : Bool) (s : State) (b : Word) :
    (s.setN f).refusesWrite b = s.refusesWrite b := rfl
@[simp] theorem State.peek_setN (f : Bool) (s : State) (b : Word) : (s.setN f).peek b = s.peek b := rfl
@[simp] theorem State.kindAt_setNZ (w : Byte) (s : State) (b : Word) : (s.setNZ w).kindAt b = s.kindAt b := rfl
@[simp] theorem State.readable_setNZ (w : Byte) (s : State) (b : Word) : (s.setNZ w).readable b = s.readable b := rfl
@[simp] theorem State.writable_setNZ (w : Byte) (s : State) (b : Word) : (s.setNZ w).writable b = s.writable b := rfl
@[simp] theorem State.refusesRead_setNZ (w : Byte) (s : State) (b : Word) :
    (s.setNZ w).refusesRead b = s.refusesRead b := rfl
@[simp] theorem State.refusesWrite_setNZ (w : Byte) (s : State) (b : Word) :
    (s.setNZ w).refusesWrite b = s.refusesWrite b := rfl
@[simp] theorem State.peek_setNZ (w : Byte) (s : State) (b : Word) : (s.setNZ w).peek b = s.peek b := rfl
@[simp] theorem State.kindAt_unpack (w : Byte) (s : State) (b : Word) : (s.unpack w).kindAt b = s.kindAt b := rfl
@[simp] theorem State.readable_unpack (w : Byte) (s : State) (b : Word) : (s.unpack w).readable b = s.readable b := rfl
@[simp] theorem State.writable_unpack (w : Byte) (s : State) (b : Word) : (s.unpack w).writable b = s.writable b := rfl
@[simp] theorem State.refusesRead_unpack (w : Byte) (s : State) (b : Word) :
    (s.unpack w).refusesRead b = s.refusesRead b := rfl
@[simp] theorem State.refusesWrite_unpack (w : Byte) (s : State) (b : Word) :
    (s.unpack w).refusesWrite b = s.refusesWrite b := rfl
@[simp] theorem State.peek_unpack (w : Byte) (s : State) (b : Word) : (s.unpack w).peek b = s.peek b := rfl
@[simp] theorem State.kindAt_clearNmi  (s : State) (b : Word) : (s.clearNmi).kindAt b = s.kindAt b := rfl
@[simp] theorem State.readable_clearNmi  (s : State) (b : Word) : (s.clearNmi).readable b = s.readable b := rfl
@[simp] theorem State.writable_clearNmi  (s : State) (b : Word) : (s.clearNmi).writable b = s.writable b := rfl
@[simp] theorem State.refusesRead_clearNmi  (s : State) (b : Word) : (s.clearNmi).refusesRead b = s.refusesRead b := rfl
@[simp] theorem State.refusesWrite_clearNmi  (s : State) (b : Word) :
    (s.clearNmi).refusesWrite b = s.refusesWrite b := rfl
@[simp] theorem State.peek_clearNmi  (s : State) (b : Word) : (s.clearNmi).peek b = s.peek b := rfl
@[simp] theorem State.kindAt_markFault  (s : State) (b : Word) : (s.markFault).kindAt b = s.kindAt b := rfl
@[simp] theorem State.readable_markFault  (s : State) (b : Word) : (s.markFault).readable b = s.readable b := rfl
@[simp] theorem State.writable_markFault  (s : State) (b : Word) : (s.markFault).writable b = s.writable b := rfl
@[simp] theorem State.refusesRead_markFault  (s : State) (b : Word) :
    (s.markFault).refusesRead b = s.refusesRead b := rfl
@[simp] theorem State.refusesWrite_markFault  (s : State) (b : Word) :
    (s.markFault).refusesWrite b = s.refusesWrite b := rfl
@[simp] theorem State.peek_markFault  (s : State) (b : Word) : (s.markFault).peek b = s.peek b := rfl
@[simp] theorem State.kindAt_markRefusal  (s : State) (b : Word) : (s.markRefusal).kindAt b = s.kindAt b := rfl
@[simp] theorem State.readable_markRefusal  (s : State) (b : Word) : (s.markRefusal).readable b = s.readable b := rfl
@[simp] theorem State.writable_markRefusal  (s : State) (b : Word) : (s.markRefusal).writable b = s.writable b := rfl
@[simp] theorem State.refusesRead_markRefusal  (s : State) (b : Word) :
    (s.markRefusal).refusesRead b = s.refusesRead b := rfl
@[simp] theorem State.refusesWrite_markRefusal  (s : State) (b : Word) :
    (s.markRefusal).refusesWrite b = s.refusesWrite b := rfl
@[simp] theorem State.peek_markRefusal  (s : State) (b : Word) : (s.markRefusal).peek b = s.peek b := rfl
@[simp] theorem State.kindAt_logAccess (acc : BusAccess) (s : State) (b : Word) :
    (s.logAccess acc).kindAt b = s.kindAt b := rfl
@[simp] theorem State.readable_logAccess (acc : BusAccess) (s : State) (b : Word) :
    (s.logAccess acc).readable b = s.readable b := rfl
@[simp] theorem State.writable_logAccess (acc : BusAccess) (s : State) (b : Word) :
    (s.logAccess acc).writable b = s.writable b := rfl
@[simp] theorem State.refusesRead_logAccess (acc : BusAccess) (s : State) (b : Word) :
    (s.logAccess acc).refusesRead b = s.refusesRead b := rfl
@[simp] theorem State.refusesWrite_logAccess (acc : BusAccess) (s : State) (b : Word) :
    (s.logAccess acc).refusesWrite b = s.refusesWrite b := rfl
@[simp] theorem State.peek_logAccess (acc : BusAccess) (s : State) (b : Word) :
    (s.logAccess acc).peek b = s.peek b := rfl
@[simp] theorem State.kindAt_poke (addr : Word) (w : Byte) (s : State) (b : Word) :
    (s.poke addr w).kindAt b = s.kindAt b := rfl
@[simp] theorem State.readable_poke (addr : Word) (w : Byte) (s : State) (b : Word) :
    (s.poke addr w).readable b = s.readable b := rfl
@[simp] theorem State.writable_poke (addr : Word) (w : Byte) (s : State) (b : Word) :
    (s.poke addr w).writable b = s.writable b := rfl
@[simp] theorem State.refusesRead_poke (addr : Word) (w : Byte) (s : State) (b : Word) :
    (s.poke addr w).refusesRead b = s.refusesRead b := rfl
@[simp] theorem State.refusesWrite_poke (addr : Word) (w : Byte) (s : State) (b : Word) :
    (s.poke addr w).refusesWrite b = s.refusesWrite b := rfl
@[simp] theorem State.poke_a (addr : Word) (w : Byte) (s : State) : (s.poke addr w).a = s.a := rfl
@[simp] theorem State.poke_x (addr : Word) (w : Byte) (s : State) : (s.poke addr w).x = s.x := rfl
@[simp] theorem State.poke_y (addr : Word) (w : Byte) (s : State) : (s.poke addr w).y = s.y := rfl
@[simp] theorem State.poke_sp (addr : Word) (w : Byte) (s : State) : (s.poke addr w).sp = s.sp := rfl
@[simp] theorem State.poke_pc (addr : Word) (w : Byte) (s : State) : (s.poke addr w).pc = s.pc := rfl
@[simp] theorem State.poke_c (addr : Word) (w : Byte) (s : State) : (s.poke addr w).c = s.c := rfl
@[simp] theorem State.poke_z (addr : Word) (w : Byte) (s : State) : (s.poke addr w).z = s.z := rfl
@[simp] theorem State.poke_i (addr : Word) (w : Byte) (s : State) : (s.poke addr w).i = s.i := rfl
@[simp] theorem State.poke_d (addr : Word) (w : Byte) (s : State) : (s.poke addr w).d = s.d := rfl
@[simp] theorem State.poke_b (addr : Word) (w : Byte) (s : State) : (s.poke addr w).b = s.b := rfl
@[simp] theorem State.poke_v (addr : Word) (w : Byte) (s : State) : (s.poke addr w).v = s.v := rfl
@[simp] theorem State.poke_n (addr : Word) (w : Byte) (s : State) : (s.poke addr w).n = s.n := rfl
@[simp] theorem State.poke_cyc (addr : Word) (w : Byte) (s : State) : (s.poke addr w).cyc = s.cyc := rfl
@[simp] theorem State.poke_resetLine (addr : Word) (w : Byte) (s : State) :
    (s.poke addr w).resetLine = s.resetLine := rfl
@[simp] theorem State.poke_irqLine (addr : Word) (w : Byte) (s : State) : (s.poke addr w).irqLine = s.irqLine := rfl
@[simp] theorem State.poke_nmiLine (addr : Word) (w : Byte) (s : State) : (s.poke addr w).nmiLine = s.nmiLine := rfl
@[simp] theorem State.poke_nmiPending (addr : Word) (w : Byte) (s : State) :
    (s.poke addr w).nmiPending = s.nmiPending := rfl
@[simp] theorem State.poke_policy (addr : Word) (w : Byte) (s : State) : (s.poke addr w).policy = s.policy := rfl
@[simp] theorem State.poke_cfg (addr : Word) (w : Byte) (s : State) : (s.poke addr w).cfg = s.cfg := rfl
@[simp] theorem State.poke_mem (addr : Word) (w : Byte) (s : State) :
    (s.poke addr w).mem = Memory.write s.mem addr.toNat w := rfl
@[simp] theorem State.poke_regions (addr : Word) (w : Byte) (s : State) : (s.poke addr w).regions = s.regions := rfl
@[simp] theorem State.poke_deviceLog (addr : Word) (w : Byte) (s : State) :
    (s.poke addr w).deviceLog = s.deviceLog := rfl
@[simp] theorem State.poke_faultMark (addr : Word) (w : Byte) (s : State) :
    (s.poke addr w).faultMark = s.faultMark := rfl
@[simp] theorem State.poke_refusalMark (addr : Word) (w : Byte) (s : State) :
    (s.poke addr w).refusalMark = s.refusalMark := rfl

/-- A byte after one byte of a canonical memory is changed. -/
theorem State.peek_poke {s : State} (hm : Memory.wf s.mem = true) (addr : Word) (w : Byte) (b : Word) :
    (s.poke addr w).peek b = if addr = b then w else s.peek b := by
  simp only [State.peek, State.poke_mem, Memory.read_write w hm]
  congr 1
  exact propext ⟨fun h => BitVec.eq_of_toNat_eq h, fun h => by rw [h]⟩

theorem State.wf_poke {s : State} (hm : Memory.wf s.mem = true) (addr : Word) (w : Byte) :
    Memory.wf (s.poke addr w).mem = true := by
  simpa using Memory.wf_write w addr.isLt hm

/-! ## The bus -/

theorem memRead_readable {s : State} {addr : Word} (h : s.readable addr = true) :
    memRead addr s = .next (s.peek addr, s.tick 1) := by
  simp only [State.readable, Bool.or_eq_true, decide_eq_true_eq] at h
  rcases h with h | h <;> simp [memRead, h]

theorem memWrite_writable {s : State} {addr : Word} (w : Byte) (h : s.writable addr = true) :
    memWrite addr w s = .next ((s.poke addr w).tick 1) := by
  simp only [State.writable, Bool.or_eq_true, decide_eq_true_eq] at h
  rcases h with h | h <;> simp [memWrite, h]

theorem memRead_refused {s : State} {addr : Word} (h : s.refusesRead addr = true) :
    memRead addr s = .fault (.memoryFault addr s.markFault) := by
  simp only [State.refusesRead, Bool.or_eq_true, decide_eq_true_eq] at h
  rcases h with h | h <;> simp [memRead, raiseMemoryFault, h]

theorem memWrite_refused {s : State} {addr : Word} (w : Byte) (h : s.refusesWrite addr = true) :
    memWrite addr w s = .fault (.memoryFault addr s.markFault) := by
  simp only [State.refusesWrite, Bool.or_eq_true, decide_eq_true_eq] at h
  rcases h with h | h <;> simp [memWrite, raiseMemoryFault, h]

/-- Only CYC and the device history differ. -/
def ReadsOnly (s t : State) : Prop := t = { s with cyc := t.cyc, deviceLog := t.deviceLog }

/-- Only memory, CYC and the device history differ. -/
def WritesOnly (s t : State) : Prop := t = { s with mem := t.mem, cyc := t.cyc, deviceLog := t.deviceLog }

theorem ReadsOnly.refl (s : State) : ReadsOnly s s := rfl

theorem ReadsOnly.trans {s t u : State} (h : ReadsOnly s t) (k : ReadsOnly t u) : ReadsOnly s u := by
  unfold ReadsOnly at *
  rw [k, h]

theorem ReadsOnly.tick {s t : State} (h : ReadsOnly s t) (k : Nat) : ReadsOnly s (t.tick k) := by
  unfold ReadsOnly at *
  rw [h]
  rfl

/-- Whatever stands behind the address, a read that answers changes CYC and the device history only. -/
theorem memRead_readsOnly {s t : State} {addr : Word} {w : Byte} (h : memRead addr s = .next (w, t)) :
    ReadsOnly s t := by
  unfold memRead at h
  split at h
  · cases h; rfl
  · cases h; rfl
  · cases h
  · cases h
  · split at h
    · cases h; rfl
    · cases h

theorem memWrite_writesOnly {s t : State} {addr : Word} {w : Byte} (h : memWrite addr w s = .next t) :
    WritesOnly s t := by
  unfold memWrite at h
  split at h
  · cases h; rfl
  · cases h; rfl
  · cases h
  · cases h
  · split at h
    · cases h; rfl
    · cases h

/-- A write changes no byte of memory but the one at its address. -/
theorem memWrite_peek {s t : State} {addr b : Word} {w : Byte} (hm : Memory.wf s.mem = true)
    (h : memWrite addr w s = .next t) (hb : b ≠ addr) : t.peek b = s.peek b := by
  unfold memWrite at h
  split at h
  · cases h; simp [State.peek_poke hm, Ne.symm hb]
  · cases h; simp [State.peek_poke hm, Ne.symm hb]
  · cases h
  · cases h
  · split at h
    · cases h; rfl
    · cases h

theorem read16_ready {s : State} {addr : Word} (h : s.vectorReady addr = true) :
    read16 addr s = .next (s.peekWord addr, s.tick 2) := by
  simp only [State.vectorReady, Bool.and_eq_true] at h
  rw [read16, memRead_readable h.1, bindVal_next, memRead_readable (by simpa using h.2)]
  simp [State.peekWord, State.peekPair]

theorem read16_readsOnly {s t : State} {addr w : Word} (h : read16 addr s = .next (w, t)) : ReadsOnly s t := by
  simp only [read16, bindVal_eq_next] at h
  obtain ⟨_, _, h1, _, _, h2, h3⟩ := h
  cases h3
  exact (memRead_readsOnly h1).trans (memRead_readsOnly h2)

theorem fetch8_readable {s : State} (h : s.readable s.pc = true) :
    fetch8 s = .next (s.peek s.pc, (s.tick 1).setPC (s.pc + 1)) := by
  rw [fetch8, memRead_readable h]
  rfl

/-! ## The stack -/

theorem push_ready {s : State} (w : Byte) (h : s.writable (stackAddr s.sp) = true) :
    push w s = .next (((s.poke (stackAddr s.sp) w).tick 1).setSP (s.sp - 1)) := by
  rw [push, memWrite_writable w h]
  rfl

theorem pull_ready {s : State} (h : s.readable (stackAddr (s.sp + 1)) = true) :
    pull s = .next (s.peek (stackAddr (s.sp + 1)), (s.setSP (s.sp + 1)).tick 1) := by
  rw [pull, State.setSP_sp, memRead_readable (by simpa using h)]
  rfl

theorem push16_ready {s : State} (w : Word) (h : s.pushReady 2 = true) :
    push16 w s = .next ((((s.poke (stackAddr s.sp) (hiByte w)).poke (stackAddr (s.sp - 1)) (loByte w)).tick 2).setSP
      (s.sp - 2)) := by
  simp only [State.pushReady, Bool.and_eq_true, State.writable_setSP, State.setSP_sp] at h
  rw [push16, push_ready _ h.1, seq_next, push_ready _ (by simpa using h.2.1)]
  simp only [State.setSP_sp, show s.sp - 1 - 1 = s.sp - 2 by bv_omega]
  congr 1
  simp [State.setSP, State.tick, State.poke, State.setMem, BitVec.add_assoc]

theorem pull16_ready {s : State} (h : s.pullReady 2 = true) :
    pull16 s = .next (word (s.peek (stackAddr (s.sp + 2))) (s.peek (stackAddr (s.sp + 1))),
      (s.setSP (s.sp + 2)).tick 2) := by
  simp only [State.pullReady, Bool.and_eq_true, State.readable_setSP, State.setSP_sp] at h
  rw [pull16, pull_ready h.1, bindVal_next, pull_ready (by simpa using h.2.1)]
  simp only [bindVal_next, State.tick_sp, State.setSP_sp, State.peek_tick, State.peek_setSP,
    show s.sp + 1 + 1 = s.sp + 2 by bv_omega]
  congr 2
  simp [State.setSP, State.tick, BitVec.add_assoc]

/-- A push that answers moves S down by 1 and otherwise does what its write does. -/
theorem push_next {s t : State} {w : Byte} (h : push w s = .next t) :
    t = { s with sp := s.sp - 1, mem := t.mem, cyc := t.cyc, deviceLog := t.deviceLog } := by
  simp only [push, seq_eq_next] at h
  obtain ⟨u, h1, h2⟩ := h
  cases h2
  have := memWrite_writesOnly h1
  unfold WritesOnly at this
  rw [this]
  rfl

theorem pull_next {s t : State} {w : Byte} (h : pull s = .next (w, t)) :
    t = { s with sp := s.sp + 1, cyc := t.cyc, deviceLog := t.deviceLog } := by
  have := memRead_readsOnly h
  unfold ReadsOnly at this
  rw [this]
  rfl

theorem push16_next {s t : State} {w : Word} (h : push16 w s = .next t) :
    t = { s with sp := s.sp - 2, mem := t.mem, cyc := t.cyc, deviceLog := t.deviceLog } := by
  simp only [push16, seq_eq_next] at h
  obtain ⟨u, h1, h2⟩ := h
  rw [push_next h2, push_next h1, show s.sp - 2 = s.sp - 1 - 1 by bv_omega]

theorem pull16_next {s t : State} {w : Word} (h : pull16 s = .next (w, t)) :
    t = { s with sp := s.sp + 2, cyc := t.cyc, deviceLog := t.deviceLog } := by
  simp only [pull16, bindVal_eq_next] at h
  obtain ⟨_, u, h1, _, v, h2, h3⟩ := h
  cases h3
  rw [pull_next h2, pull_next h1, show s.sp + 2 = s.sp + 1 + 1 by bv_omega]

/-! ## Trap entry and return -/

@[simp] theorem State.trapFlags_regions (forcedB : Bool) (s : State) : (s.trapFlags forcedB).regions = s.regions := by
  unfold State.trapFlags
  split <;> rfl

@[simp] theorem State.kindAt_trapFlags (forcedB : Bool) (s : State) (addr : Word) :
    (s.trapFlags forcedB).kindAt addr = s.kindAt addr := by
  rw [State.kindAt, State.kindAt, State.trapFlags_regions]

@[simp] theorem State.readable_trapFlags (forcedB : Bool) (s : State) (addr : Word) :
    (s.trapFlags forcedB).readable addr = s.readable addr := by
  rw [State.readable, State.readable, State.kindAt_trapFlags]

@[simp] theorem State.refusesRead_trapFlags (forcedB : Bool) (s : State) (addr : Word) :
    (s.trapFlags forcedB).refusesRead addr = s.refusesRead addr := by
  rw [State.refusesRead, State.refusesRead, State.kindAt_trapFlags]

/-- Trap entry where its three pushes and two reads land on plain memory (60_exceptions.md R238). -/
theorem trapEntry_ready {s : State} (vector : Word) (forcedB : Bool) (hp : s.pushReady 3 = true)
    (hv : s.vectorReady vector = true) :
    trapEntry vector forcedB s = .next
      (let u := s.pokes [(stackAddr s.sp, hiByte s.pc), (stackAddr (s.sp - 1), loByte s.pc),
        (stackAddr (s.sp - 2), s.statusByte forcedB)]
       { u with sp := s.sp - 3, i := true, b := if s.cfg.bWriteback then forcedB else s.b,
                pc := u.peekWord vector, cyc := s.cyc + 5 }) := by
  simp only [State.pushReady, Bool.and_eq_true, State.writable_setSP, State.setSP_sp] at hp
  obtain ⟨h1, h2, h3, -⟩ := hp
  have e2 : s.sp - 1 - 1 = s.sp - 2 := by bv_omega
  have e3 : s.sp - 2#8 - 1#8 = s.sp - 3#8 := by bv_omega
  rw [e2] at h3
  have hp2 : s.pushReady 2 = true := by
    simp only [State.pushReady, Bool.and_eq_true, State.writable_setSP, State.setSP_sp]
    exact ⟨h1, h2, trivial⟩
  rw [trapEntry, push16_ready _ hp2, seq_next, push_ready _ (by simpa using h3), seq_next,
    read16_ready (by simpa [State.vectorReady] using hv)]
  simp only [bindVal_next]
  congr 1
  cases hb : s.cfg.bWriteback <;>
    simp [State.trapFlags, hb, State.pokes, State.setSP, State.setI, State.setB, State.setPC, State.tick, State.poke,
      State.setMem, State.peekWord, State.peekPair, State.peek, BitVec.add_assoc, State.statusByte, State.packed] <;>
    exact e3

theorem trapEntry_next {s t : State} {vector : Word} {forcedB : Bool} (h : trapEntry vector forcedB s = .next t) :
    t = { s with sp := s.sp - 3, i := true, b := if s.cfg.bWriteback then forcedB else s.b, pc := t.pc,
                 mem := t.mem, cyc := t.cyc, deviceLog := t.deviceLog } := by
  simp only [trapEntry, seq_eq_next, bindVal_eq_next] at h
  obtain ⟨u, h1, v, h2, w, x, h3, h4⟩ := h
  cases h4
  have e : s.sp - 3 = s.sp - 2 - 1 := by bv_omega
  have h3' := read16_readsOnly h3
  unfold ReadsOnly at h3'
  rw [h3', push_next h2, push16_next h1, e]
  cases hb : s.cfg.bWriteback <;> simp [State.trapFlags, State.setI, State.setB, State.setPC, hb]

theorem trapReturn_ready {s : State} (h : s.pullReady 3 = true) :
    trapReturn s = .next
      (((s.unpack (s.peek (stackAddr (s.sp + 1)))).setPC
        (word (s.peek (stackAddr (s.sp + 3))) (s.peek (stackAddr (s.sp + 2))))).setSP (s.sp + 3) |>.tick 3) := by
  simp only [State.pullReady, Bool.and_eq_true, State.readable_setSP, State.setSP_sp] at h
  obtain ⟨h1, h2, h3, -⟩ := h
  rw [trapReturn, pull_ready h1, bindVal_next, pull16_ready (by
    simp only [State.pullReady, Bool.and_eq_true]
    exact ⟨by simpa using h2, by simpa using h3, trivial⟩)]
  simp only [bindVal_next, State.unpack_sp, State.tick_sp, State.setSP_sp, State.peek_unpack, State.peek_tick,
    State.peek_setSP, show s.sp + 1 + 1 = s.sp + 2 by bv_omega, show s.sp + 1 + 2 = s.sp + 3 by bv_omega]
  congr 1
  simp [State.unpack, State.setSP, State.setPC, State.tick, BitVec.add_assoc]

/-- A return that answers changes the flags, PC and S, and nothing else but CYC and the device history. -/
theorem trapReturn_next {s t : State} (h : trapReturn s = .next t) :
    t = { s with sp := s.sp + 3, pc := t.pc, c := t.c, z := t.z, i := t.i, d := t.d, b := t.b, v := t.v, n := t.n,
                 cyc := t.cyc, deviceLog := t.deviceLog } := by
  simp only [trapReturn, bindVal_eq_next] at h
  obtain ⟨w, u, h1, a, v, h2, h3⟩ := h
  cases h3
  rw [pull16_next h2, pull_next h1, show s.sp + 3 = s.sp + 1 + 2 by bv_omega]
  rfl

/-! ## What every operation keeps -/

/-- What no operation of the engine undoes: the outside of R233 and its like, the canonical memory, the marks;
the NMI latch can only be cleared. -/
structure Keeps (s t : State) : Prop where
  outside : SameOutside s t
  nmi : t.nmiPending = true → s.nmiPending = true
  wf : Memory.wf s.mem = true → Memory.wf t.mem = true
  faultMark : s.faultMark = true → t.faultMark = true
  refusalMark : s.refusalMark = true → t.refusalMark = true

theorem Keeps.refl (s : State) : Keeps s s := ⟨⟨rfl, rfl, rfl, rfl, rfl, rfl⟩, id, id, id, id⟩

theorem Keeps.trans {s t u : State} (h : Keeps s t) (k : Keeps t u) : Keeps s u :=
  ⟨⟨k.outside.resetLine.trans h.outside.resetLine, k.outside.irqLine.trans h.outside.irqLine,
    k.outside.nmiLine.trans h.outside.nmiLine, k.outside.policy.trans h.outside.policy,
    k.outside.cfg.trans h.outside.cfg, k.outside.regions.trans h.outside.regions⟩,
   h.nmi ∘ k.nmi, k.wf ∘ h.wf, k.faultMark ∘ h.faultMark, k.refusalMark ∘ h.refusalMark⟩

/-- A property of the state an outcome leaves: the next state, or what an error left. -/
def Leaves {α : Type} (get : α → State) (P : State → Prop) (r : Result α) : Prop :=
  match r with
  | .next p => P (get p)
  | .fault f => P f.left
  | .refused _ => True

/-- The statement keeps what `Keeps` says, whichever way it ends. -/
abbrev KeepsAll (s : State) (r : Result State) : Prop := Leaves id (Keeps s) r

/-- The same for a statement that yields a value. -/
abbrev KeepsVal {α : Type} (s : State) (r : Result (α × State)) : Prop := Leaves Prod.snd (Keeps s) r

theorem Leaves.of_keeps {α : Type} {get : α → State} {s t : State} {r : Result α} (h : Keeps s t)
    (hr : Leaves get (Keeps t) r) : Leaves get (Keeps s) r := by
  cases r with
  | next p => exact h.trans hr
  | fault f => exact h.trans hr
  | refused f => trivial

theorem seq_keeps {α : Type} {get : α → State} {s : State} {r : Result State} {k : State → Result α}
    (hr : KeepsAll s r) (hk : ∀ t, Leaves get (Keeps t) (k t)) : Leaves get (Keeps s) (seq r k) := by
  cases r with
  | next t => exact Leaves.of_keeps hr (hk t)
  | fault f => exact hr
  | refused f => trivial

theorem bindVal_keeps {α β : Type} {get : β → State} {s : State} {r : Result (α × State)}
    {k : α → State → Result β} (hr : KeepsVal s r) (hk : ∀ a t, Leaves get (Keeps t) (k a t)) :
    Leaves get (Keeps s) (bindVal r k) := by
  cases r with
  | next p => exact Leaves.of_keeps hr (hk p.1 p.2)
  | fault f => exact hr
  | refused f => trivial

/-- An update of registers, flags, CYC, the device history or the marks. -/
theorem Keeps.of_fields {s t : State} (ho : SameOutside s t) (hn : t.nmiPending = s.nmiPending) (hm : t.mem = s.mem)
    (hf : t.faultMark = s.faultMark) (hr : t.refusalMark = s.refusalMark) : Keeps s t :=
  ⟨ho, fun h => hn ▸ h, fun h => hm ▸ h, fun h => hf ▸ h, fun h => hr ▸ h⟩

theorem Keeps.tick (k : Nat) (s : State) : Keeps s (s.tick k) :=
  .of_fields ⟨rfl, rfl, rfl, rfl, rfl, rfl⟩ rfl rfl rfl rfl

theorem Keeps.setPC (w : Word) (s : State) : Keeps s (s.setPC w) :=
  .of_fields ⟨rfl, rfl, rfl, rfl, rfl, rfl⟩ rfl rfl rfl rfl

theorem Keeps.setSP (w : Byte) (s : State) : Keeps s (s.setSP w) :=
  .of_fields ⟨rfl, rfl, rfl, rfl, rfl, rfl⟩ rfl rfl rfl rfl

theorem Keeps.setI (f : Bool) (s : State) : Keeps s (s.setI f) :=
  .of_fields ⟨rfl, rfl, rfl, rfl, rfl, rfl⟩ rfl rfl rfl rfl

theorem Keeps.setB (f : Bool) (s : State) : Keeps s (s.setB f) :=
  .of_fields ⟨rfl, rfl, rfl, rfl, rfl, rfl⟩ rfl rfl rfl rfl

theorem Keeps.unpack (w : Byte) (s : State) : Keeps s (s.unpack w) :=
  .of_fields ⟨rfl, rfl, rfl, rfl, rfl, rfl⟩ rfl rfl rfl rfl

theorem Keeps.logAccess (acc : BusAccess) (s : State) : Keeps s (s.logAccess acc) :=
  .of_fields ⟨rfl, rfl, rfl, rfl, rfl, rfl⟩ rfl rfl rfl rfl

theorem Keeps.markFault (s : State) : Keeps s s.markFault :=
  ⟨⟨rfl, rfl, rfl, rfl, rfl, rfl⟩, id, id, fun _ => rfl, id⟩

theorem Keeps.clearNmi (s : State) : Keeps s s.clearNmi :=
  ⟨⟨rfl, rfl, rfl, rfl, rfl, rfl⟩, fun h => Bool.noConfusion h, id, id, id⟩

theorem Keeps.poke (addr : Word) (w : Byte) (s : State) : Keeps s (s.poke addr w) :=
  ⟨⟨rfl, rfl, rfl, rfl, rfl, rfl⟩, id, fun h => State.wf_poke h addr w, id, id⟩

theorem memRead_keeps (addr : Word) (s : State) : KeepsVal s (memRead addr s) := by
  unfold memRead
  split
  · exact Keeps.tick 1 s
  · exact Keeps.tick 1 s
  · exact Keeps.markFault s
  · exact Keeps.markFault s
  · split
    · exact (Keeps.logAccess _ s).trans (Keeps.tick 1 _)
    · exact (Keeps.logAccess _ s).trans (Keeps.markFault _)

theorem memWrite_keeps (addr : Word) (w : Byte) (s : State) : KeepsAll s (memWrite addr w s) := by
  unfold memWrite
  split
  · exact (Keeps.poke addr w s).trans (Keeps.tick 1 _)
  · exact (Keeps.poke addr w s).trans (Keeps.tick 1 _)
  · exact Keeps.markFault s
  · exact Keeps.markFault s
  · split
    · exact (Keeps.logAccess _ s).trans (Keeps.tick 1 _)
    · exact (Keeps.logAccess _ s).trans (Keeps.markFault _)

theorem read16_keeps (addr : Word) (s : State) : KeepsVal s (read16 addr s) :=
  bindVal_keeps (memRead_keeps _ _) fun _ _ => bindVal_keeps (memRead_keeps _ _) fun _ t => Keeps.refl t

theorem fetch8_keeps (s : State) : KeepsVal s (fetch8 s) :=
  bindVal_keeps (memRead_keeps _ _) fun _ t => Keeps.setPC _ t

theorem push_keeps (w : Byte) (s : State) : KeepsAll s (push w s) :=
  seq_keeps (memWrite_keeps _ _ _) fun t => Keeps.setSP _ t

theorem pull_keeps (s : State) : KeepsVal s (pull s) :=
  Leaves.of_keeps (Keeps.setSP (s.sp + 1) s) (memRead_keeps _ _)

theorem push16_keeps (w : Word) (s : State) : KeepsAll s (push16 w s) :=
  seq_keeps (push_keeps _ _) fun t => push_keeps _ t

theorem pull16_keeps (s : State) : KeepsVal s (pull16 s) :=
  bindVal_keeps (pull_keeps _) fun _ _ => bindVal_keeps (pull_keeps _) fun _ t => Keeps.refl t

theorem trapFlags_keeps (forcedB : Bool) (s : State) : Keeps s (s.trapFlags forcedB) := by
  unfold State.trapFlags
  split
  · exact (Keeps.setB _ s).trans (Keeps.setI _ _)
  · exact Keeps.setI _ s

theorem trapEntry_keeps (vector : Word) (forcedB : Bool) (s : State) : KeepsAll s (trapEntry vector forcedB s) :=
  seq_keeps (push16_keeps _ _) fun _ => seq_keeps (push_keeps _ _) fun t =>
    Leaves.of_keeps (trapFlags_keeps forcedB t) (bindVal_keeps (read16_keeps _ _) fun _ u => Keeps.setPC _ u)

theorem trapReturn_keeps (s : State) : KeepsAll s (trapReturn s) :=
  bindVal_keeps (pull_keeps _) fun w t =>
    Leaves.of_keeps (Keeps.unpack w t) (bindVal_keeps (pull16_keeps _) fun _ u => Keeps.setPC _ u)

theorem pollInterrupts_keeps (s : State) : KeepsAll s (pollInterrupts s) := by
  unfold pollInterrupts
  split
  · exact Leaves.of_keeps ((Keeps.clearNmi s).trans (Keeps.tick 2 _)) (trapEntry_keeps _ _ _)
  · split
    · exact Leaves.of_keeps (Keeps.tick 2 s) (trapEntry_keeps _ _ _)
    · exact Keeps.refl s

end Sys2Proof.Machine
end

