-- ==== Sys2Proof/Laws/Operands.lean ====
section
/-! SUPPORT. What the addressing resolver and the operand helpers can do, said once: where every read lands on
plain memory they answer the closed form, and wherever they land they change nothing but what they write. -/

namespace Sys2Proof.Machine

/-! ## The closed forms -/

theorem pagePenalty_eq (base ea : Word) (s : State) : pagePenalty base ea s = s.tick (pageCrossed base ea).toNat := by
  unfold pagePenalty
  cases pageCrossed base ea <;> simp

theorem readPair_ready {s : State} {lo hi : Word} (hl : s.readable lo = true) (hh : s.readable hi = true) :
    readPair lo hi s = .next (s.peekPair lo hi, s.tick 2) := by
  rw [readPair, memRead_readable hl, bindVal_next, memRead_readable (by simpa using hh)]
  simp [State.peekPair]

/-- The resolver where its pointer reads land on plain memory (41_addressing_modes.md R115 to R123, R126). -/
theorem resolve_ready {m : AddrMode} {s : State} (h : pointerReadable m s = true) :
    resolve m s = .next (effAddr m s, s.tick (resolveCost m s)) := by
  cases m <;> simp only [pointerReadable, Bool.and_eq_true] at h
  case ind w => simp [resolve, effAddr, resolveCost, readPair_ready h.1 h.2]
  case izx b =>
    rw [resolve, readZeroPagePointer, readPair_ready h.1 h.2]
    rfl
  case izy b =>
    rw [resolve, readZeroPagePointer, readPair_ready h.1 h.2, bindVal_next, pagePenalty_eq, State.tick_tick]
    rfl
  all_goals simp [resolve, effAddr, resolveCost, pagePenalty_eq]

theorem loadOperand_ready {src : Source} {s : State} (h : sourceReady src s = true) :
    loadOperand src s = .next (sourceValue src s, s.tick (sourceCost src s)) := by
  cases src with
  | imm w => simp [loadOperand, sourceValue, sourceCost]
  | mem m =>
    simp only [sourceReady, Bool.and_eq_true] at h
    rw [loadOperand, resolve_ready h.1, bindVal_next, memRead_readable (by simpa using h.2)]
    simp [sourceValue, sourceCost]

theorem readWith_ready (f : Byte → State → State) {src : Source} {s : State} (h : sourceReady src s = true) :
    readWith f src s = .next (f (sourceValue src s) (s.tick (sourceCost src s))) := by
  rw [readWith, loadOperand_ready h, bindVal_next]

theorem storeOperand_ready {m : AddrMode} {w : Byte} {s : State} (h : pointerReadable m s = true)
    (hw : s.writable (effAddr m s) = true) :
    storeOperand m w s = .next ((s.poke (effAddr m s) w).tick (resolveCost m s + 1)) := by
  rw [storeOperand, resolve_ready h, bindVal_next, memWrite_writable _ (by simpa using hw)]
  congr 1
  simp [State.poke, State.setMem, State.tick, BitVec.ofNat_add, BitVec.add_assoc]

/-- A read-modify-write where its accesses land on plain memory, for an `f` that changes flags only. -/
theorem modifyOperand_ready {m : AddrMode} (f : Byte → State → Byte × State) {s : State}
    (h : pointerReadable m s = true) (hr : s.readable (effAddr m s) = true)
    (hw : (f (s.peek (effAddr m s)) (s.tick (resolveCost m s + 1))).2.writable (effAddr m s) = true) :
    modifyOperand m f s = .next
      (let r := f (s.peek (effAddr m s)) (s.tick (resolveCost m s + 1))
       ((r.2.poke (effAddr m s) r.1).tick 1)) := by
  rw [modifyOperand, resolve_ready h, bindVal_next, memRead_readable (by simpa using hr), bindVal_next,
    State.tick_tick, State.peek_tick, memWrite_writable _ hw]

/-! ## Unassigned opcodes, by policy (40_step_and_dispatch.md R99 to R101) -/

theorem unknownOpcode_throw {opcode : Byte} {s : State} (h : s.policy = .throwException) :
    unknownOpcode opcode s = .fault (.invalidOpcode (s.pc - 1) opcode s.markFault) := by
  simp only [unknownOpcode, h, raiseInvalidOpcode]

theorem unknownOpcode_nop {opcode : Byte} {s : State} (h : s.policy = .treatAsNop) :
    unknownOpcode opcode s = .next (s.tick 1) := by
  simp only [unknownOpcode, h]

theorem unknownOpcode_emulate {opcode : Byte} {s : State} (h : s.policy = .emulateHardwareBehavior) :
    unknownOpcode opcode s = .refused (.emulateHardwareBehavior (s.pc - 1) opcode s.markRefusal) := by
  simp only [unknownOpcode, h]

/-! ## What changes, wherever the accesses land -/

theorem readPair_readsOnly {s t : State} {lo hi w : Word} (h : readPair lo hi s = .next (w, t)) : ReadsOnly s t := by
  simp only [readPair, bindVal_eq_next] at h
  obtain ⟨_, _, h1, _, _, h2, h3⟩ := h
  cases h3
  exact (memRead_readsOnly h1).trans (memRead_readsOnly h2)

theorem pagePenalty_readsOnly (base ea : Word) (s : State) : ReadsOnly s (pagePenalty base ea s) := by
  rw [pagePenalty_eq]
  exact (ReadsOnly.refl s).tick _

theorem resolve_readsOnly {m : AddrMode} {s t : State} {ea : Word} (h : resolve m s = .next (ea, t)) :
    ReadsOnly s t := by
  cases m with
  | ind w => exact readPair_readsOnly h
  | izx b => exact readPair_readsOnly h
  | izy b =>
    simp only [resolve, bindVal_eq_next] at h
    obtain ⟨_, _, h1, h2⟩ := h
    cases h2
    exact (readPair_readsOnly h1).trans (pagePenalty_readsOnly _ _ _)
  | abx w => cases h; exact pagePenalty_readsOnly _ _ _
  | aby w => cases h; exact pagePenalty_readsOnly _ _ _
  | _ => cases h; exact ReadsOnly.refl s

theorem loadOperand_readsOnly {src : Source} {s t : State} {w : Byte} (h : loadOperand src s = .next (w, t)) :
    ReadsOnly s t := by
  cases src with
  | imm _ => cases h; exact ReadsOnly.refl s
  | mem m =>
    simp only [loadOperand, bindVal_eq_next] at h
    obtain ⟨_, _, h1, h2⟩ := h
    exact (resolve_readsOnly h1).trans (memRead_readsOnly h2)

theorem storeOperand_writesOnly {m : AddrMode} {w : Byte} {s t : State} (h : storeOperand m w s = .next t) :
    WritesOnly s t := by
  simp only [storeOperand, bindVal_eq_next] at h
  obtain ⟨_, _, h1, h2⟩ := h
  have k1 := resolve_readsOnly h1
  have k2 := memWrite_writesOnly h2
  unfold ReadsOnly at k1
  unfold WritesOnly at k2 ⊢
  rw [k2, k1]

/-- A read-modify-write that answers changes what its `f` changes, memory, CYC and the device history. -/
theorem modifyOperand_next {m : AddrMode} {f : Byte → State → Byte × State} {s t : State}
    (h : modifyOperand m f s = .next t) :
    ∃ old u, ReadsOnly s u ∧ WritesOnly (f old u).2 t := by
  simp only [modifyOperand, bindVal_eq_next] at h
  obtain ⟨_, _, h1, old, u, h2, h3⟩ := h
  exact ⟨old, u, (resolve_readsOnly h1).trans (memRead_readsOnly h2), memWrite_writesOnly h3⟩

/-! ## What every operand operation keeps -/

theorem Keeps.pagePenalty (base ea : Word) (s : State) : Keeps s (pagePenalty base ea s) := by
  rw [pagePenalty_eq]
  exact Keeps.tick _ s

theorem readPair_keeps (lo hi : Word) (s : State) : KeepsVal s (readPair lo hi s) :=
  bindVal_keeps (memRead_keeps _ _) fun _ _ => bindVal_keeps (memRead_keeps _ _) fun _ t => Keeps.refl t

theorem resolve_keeps (m : AddrMode) (s : State) : KeepsVal s (resolve m s) := by
  cases m with
  | ind w => exact readPair_keeps _ _ s
  | izx b => exact readPair_keeps _ _ s
  | izy b =>
    simp only [resolve, readZeroPagePointer]
    refine bindVal_keeps (readPair_keeps _ _ s) fun base t => ?_
    exact Keeps.pagePenalty base (base + zext16 t.y) t
  | abx w => exact Keeps.pagePenalty _ _ s
  | aby w => exact Keeps.pagePenalty _ _ s
  | _ => exact Keeps.refl s

theorem loadOperand_keeps (src : Source) (s : State) : KeepsVal s (loadOperand src s) := by
  cases src with
  | imm w => exact Keeps.refl s
  | mem m => exact bindVal_keeps (resolve_keeps _ _) fun _ t => memRead_keeps _ t

theorem readWith_keeps {f : Byte → State → State} (hf : ∀ w t, Keeps t (f w t)) (src : Source) (s : State) :
    KeepsAll s (readWith f src s) :=
  bindVal_keeps (loadOperand_keeps _ _) fun w t => hf w t

theorem storeOperand_keeps (m : AddrMode) (w : Byte) (s : State) : KeepsAll s (storeOperand m w s) :=
  bindVal_keeps (resolve_keeps _ _) fun _ t => memWrite_keeps _ _ t

theorem modifyOperand_keeps {f : Byte → State → Byte × State} (hf : ∀ w t, Keeps t (f w t).2) (m : AddrMode)
    (s : State) : KeepsAll s (modifyOperand m f s) :=
  bindVal_keeps (resolve_keeps _ _) fun _ _ => bindVal_keeps (memRead_keeps _ _) fun old t =>
    Leaves.of_keeps (hf old t) (memWrite_keeps _ _ _)

theorem branch_keeps (taken : Bool) (d : Byte) (s : State) : KeepsAll s (branch taken d s) := by
  cases taken with
  | false => exact Keeps.refl s
  | true => exact ((Keeps.tick 1 s).trans (Keeps.pagePenalty _ _ _)).trans (Keeps.setPC _ _)

theorem jump_keeps (m : AddrMode) (s : State) : KeepsAll s (jump m s) :=
  bindVal_keeps (resolve_keeps _ _) fun _ t => Keeps.setPC _ t

theorem call_keeps (target : Word) (s : State) : KeepsAll s (call target s) :=
  seq_keeps (push16_keeps _ _) fun t => Keeps.setPC _ t

theorem unknownOpcode_keeps (opcode : Byte) (s : State) : KeepsAll s (unknownOpcode opcode s) := by
  unfold unknownOpcode
  split
  · exact Keeps.markFault s
  · exact Keeps.tick 1 s
  · trivial

end Sys2Proof.Machine
end

