-- ==== Sys2Proof/Laws/Fetch.lean ====
section
/-! SUPPORT. What fetching an instruction does: on readable code it yields the decoded instruction, PC past it; and
what it keeps anywhere. -/

namespace Sys2Proof.Machine

theorem fetchImmediate_readable {s : State} (h : s.readable s.pc = true) :
    fetchImmediate s = .next (s.peek s.pc, (s.setPC (s.pc + 1)).tick 1) := by
  rw [fetchImmediate, memRead_readable (by simpa using h)]
  rfl

theorem fetchImmediate_keeps (s : State) : KeepsVal s (fetchImmediate s) :=
  Leaves.of_keeps (Keeps.setPC (s.pc + 1) s) (memRead_keeps _ _)

theorem fetchOperand_keeps (mode : Mode) (s : State) : KeepsVal s (fetchOperand mode s) := by
  unfold fetchOperand
  split
  · exact Keeps.refl s
  · exact bindVal_keeps (fetchImmediate_keeps s) fun _ t => Keeps.refl t
  · exact bindVal_keeps (fetch8_keeps s) fun _ t => Keeps.refl t
  · exact bindVal_keeps (fetch8_keeps s) fun _ _ => bindVal_keeps (fetch8_keeps _) fun _ t => Keeps.refl t

theorem fetchInstr_keeps (s : State) : KeepsVal s (fetchInstr s) := by
  refine bindVal_keeps (fetch8_keeps s) fun opcode t => ?_
  cases modeOf opcode with
  | none => exact Keeps.refl t
  | some mode =>
    exact Leaves.of_keeps (Keeps.tick _ t) (bindVal_keeps (fetchOperand_keeps mode _) fun _ u => Keeps.refl u)

/-- The operand bytes of a mode where code is readable: PC and CYC move by as many. -/
theorem fetchOperand_ready {mode : Mode} {s : State} (h : s.readableFrom s.pc (mode.length - 1) = true) :
    ∃ bs, fetchOperand mode s = .next (bs, { s with
        pc := s.pc + BitVec.ofNat 16 (mode.length - 1), cyc := s.cyc + BitVec.ofNat 64 (mode.length - 1) }) ∧
      (2 ≤ mode.length → bs.1 = s.peek s.pc) ∧ (mode.length = 3 → bs.2 = s.peek (s.pc + 1)) := by
  cases mode <;>
    simp only [Mode.length, State.readableFrom, Nat.reduceSub, Bool.and_true, Bool.and_eq_true] at h
  case imp | acc => exact ⟨(0, 0), by simp [fetchOperand, Mode.length], by simp [Mode.length], by simp [Mode.length]⟩
  case imm =>
    refine ⟨(s.peek s.pc, 0), ?_, by simp, by simp [Mode.length]⟩
    simp only [fetchOperand, Mode.length, fetchImmediate_readable h]
    rfl
  case abs | abx | aby | ind =>
    refine ⟨(s.peek s.pc, s.peek (s.pc + 1)), ?_, by simp, by simp⟩
    have h2 : ((s.tick 1).setPC (s.pc + 1)).readable ((s.tick 1).setPC (s.pc + 1)).pc = true := h.2
    simp only [fetchOperand, Mode.length, fetch8_readable h.1, bindVal_next, fetch8_readable h2]
    simp [State.setPC, State.tick, BitVec.add_assoc, State.peek]
  all_goals
    refine ⟨(s.peek s.pc, 0), ?_, by simp, by simp [Mode.length]⟩
    simp only [fetchOperand, Mode.length, fetch8_readable h]
    rfl

/-! ## The decoder, by opcode byte -/

theorem modeOf_opcode (i : Instr) : modeOf i.opcode = i.mode := by
  cases i <;> rfl

theorem length_encode (i : Instr) : (encode i).length = lengthOf i.opcode := by
  cases i <;> rfl

theorem decode_cons (opcode : Byte) (bytes : List Byte) :
    decode (opcode :: bytes) = match lengthOf opcode, bytes with
      | 1, rest => .ok (decodeBytes opcode 0 0) rest
      | 2, b1 :: rest => .ok (decodeBytes opcode b1 0) rest
      | 3, b1 :: b2 :: rest => .ok (decodeBytes opcode b1 b2) rest
      | _, _ => .missingOperand opcode := rfl

/-- A fact about bytes is 256 facts about numbers. -/
theorem byte_cases {P : Byte → Prop} (h : ∀ k < 256, P (BitVec.ofNat 8 k)) (b : Byte) : P b := by
  rw [← (BitVec.ofNat_toNat 8 b).trans (BitVec.setWidth_eq b)]
  exact h _ b.isLt

theorem opcode_decodeBytes (op b1 b2 : Byte) : (decodeBytes op b1 b2).opcode = op := by
  induction op using byte_cases with
  | h k hk => interval_cases k <;> rfl

theorem decodeBytes_length1 (op b1 b2 : Byte) : lengthOf op = 1 → decodeBytes op b1 b2 = decodeBytes op 0 0 := by
  induction op using byte_cases with
  | h k hk => interval_cases k <;> first | (intro _; rfl) | (intro h; exact absurd h (by decide))

theorem decodeBytes_length2 (op b1 b2 : Byte) : lengthOf op = 2 → decodeBytes op b1 b2 = decodeBytes op b1 0 := by
  induction op using byte_cases with
  | h k hk => interval_cases k <;> first | (intro _; rfl) | (intro h; exact absurd h (by decide))

/-- An unassigned opcode byte has no mode and decodes to itself. -/
theorem decodeBytes_unassigned (op : Byte) :
    op ∈ unassignedOpcodes → modeOf op = none ∧ (decodeBytes op 0 0).form = .unassigned op := by
  induction op using byte_cases with
  | h k hk => interval_cases k <;> first | (intro _; exact ⟨rfl, rfl⟩) | (intro h; exact absurd h (by decide))

theorem readableFrom_of_regions {s t : State} (h : t.regions = s.regions) (a : Word) (k : Nat) :
    s.readableFrom a k = t.readableFrom a k := by
  induction k generalizing a with
  | zero => rfl
  | succ k ih =>
    have hk : s.kindAt a = t.kindAt a := by rw [State.kindAt, State.kindAt, h]
    rw [State.readableFrom, State.readableFrom, State.readable, State.readable, hk, ih]

/-- Fetching on readable code: the decoded instruction, PC and CYC past it (40_step_and_dispatch.md R93 to R95). -/
theorem fetchInstr_ready {t : State} {i : Instr} {rest : List Byte}
    (hd : decode (t.bytesFrom t.pc 3) = .ok i rest) (hr : t.readableFrom t.pc (encode i).length = true) :
    fetchInstr t = .next (i, { t with
      pc := t.pc + BitVec.ofNat 16 (encode i).length,
      cyc := t.cyc + BitVec.ofNat 64 ((encode i).length +
        if i.mode = none then 0 else internalCycles t.cfg i.opcode) }) := by
  have hop : i.opcode = t.peek t.pc := by
    simp only [State.bytesFrom] at hd
    rw [decode_cons] at hd
    split at hd <;> cases hd <;> exact opcode_decodeBytes _ _ _
  have hl := length_encode i
  have hm := modeOf_opcode i
  rw [hop] at hl hm
  obtain ⟨n, hn⟩ : ∃ n, (encode i).length = n + 1 := ⟨_, rfl⟩
  rw [hn] at hr
  simp only [State.readableFrom, Bool.and_eq_true] at hr
  rw [fetchInstr, fetch8_readable hr.1, bindVal_next, hm]
  simp only [State.bytesFrom] at hd
  rw [decode_cons] at hd
  cases hmode : i.mode with
  | none =>
    have hl1 : lengthOf (t.peek t.pc) = 1 := by rw [lengthOf, hm, hmode]
    simp only [hl1] at hd
    have : i = decodeBytes (t.peek t.pc) 0 0 := by simp at hd; exact hd.1.symm
    rw [hl, hl1]
    simp only [this.symm]
    rfl
  | some mode =>
    simp only
    have hll : lengthOf (t.peek t.pc) = mode.length := by rw [lengthOf, hm, hmode]
    have hnn : n = mode.length - 1 := by omega
    have hreg : (((t.tick 1).setPC (t.pc + 1)).tick (internalCycles t.cfg (t.peek t.pc))).regions = t.regions := rfl
    have hr2 := (readableFrom_of_regions hreg (t.pc + 1) (mode.length - 1)).symm.trans (hnn ▸ hr.2)
    obtain ⟨bs, hb, h1, h2⟩ := fetchOperand_ready (mode := mode) hr2
    rw [State.setPC_cfg, State.tick_cfg, hb, bindVal_next]
    have hdec : decodeBytes (t.peek t.pc) bs.1 bs.2 = i := by
      rw [hll] at hd
      have : mode.length = 1 ∨ mode.length = 2 ∨ mode.length = 3 := by cases mode <;> simp [Mode.length]
      rcases this with h | h | h
      · rw [decodeBytes_length1 _ _ _ (by omega)]; rw [h] at hd; simp at hd; exact hd.1
      · rw [decodeBytes_length2 _ _ _ (by omega), h1 (by omega)]; rw [h] at hd; simp at hd; exact hd.1
      · rw [h1 (by omega), h2 (by omega)]; rw [h] at hd; simp at hd; exact hd.1
    rw [hdec, hl, hll]
    have hge : 1 ≤ mode.length := by cases mode <;> simp [Mode.length]
    obtain ⟨k, hk⟩ : ∃ k, mode.length = k + 1 := ⟨mode.length - 1, by omega⟩
    rw [hk]
    simp only [State.tick, State.setPC, hop, Nat.add_sub_cancel, reduceCtorEq, if_false]
    congr 3
    · rw [BitVec.add_assoc]; congr 1; apply BitVec.eq_of_toNat_eq; simp; omega
    · simp only [BitVec.add_assoc]; congr 1; apply BitVec.eq_of_toNat_eq; simp; omega

end Sys2Proof.Machine
end

