-- ==== Sys2Proof/Laws/Exec.lean ====
section
/-! SUPPORT. `exec` by form: the 256 arms of the dispatch are nine shapes over the shared meanings. Statements about
every instruction are proved by cases on the form, not on the instruction. -/

namespace Sys2Proof.Machine

/-- What a read-type mnemonic does with its operand byte. -/
def readEffect : ReadOp → Byte → State → State
  | .lda => fun w s => (s.setA w).setNZ w
  | .ldx => fun w s => (s.setX w).setNZ w
  | .ldy => fun w s => (s.setY w).setNZ w
  | .adc => State.adc
  | .sbc => State.sbc
  | .cmp => fun w s => s.compare s.a w
  | .cpx => fun w s => s.compare s.x w
  | .cpy => fun w s => s.compare s.y w
  | .and => fun w s => (s.setA (s.a &&& w)).setNZ (s.a &&& w)
  | .ora => fun w s => (s.setA (s.a ||| w)).setNZ (s.a ||| w)
  | .eor => fun w s => (s.setA (s.a ^^^ w)).setNZ (s.a ^^^ w)
  | .bit => State.bitTest

/-- The register a store writes out. -/
def storedRegister : StoreOp → State → Byte
  | .sta, s => s.a
  | .stx, s => s.x
  | .sty, s => s.y

/-- The function of a read-modify-write mnemonic. -/
def modifyEffect : ModifyOp → Byte → State → Byte × State
  | .asl => aslOf
  | .lsr => lsrOf
  | .rol => rolOf
  | .ror => rorOf
  | .inc => incOf
  | .dec => decOfByte

/-- The condition of a branch. -/
def branchTaken : BranchOp → State → Bool
  | .bcc, s => !s.c
  | .bcs, s => s.c
  | .beq, s => s.z
  | .bne, s => !s.z
  | .bmi, s => s.n
  | .bpl, s => !s.n
  | .bvc, s => !s.v
  | .bvs, s => s.v

/-- The meaning of a mnemonic of mode IMP. -/
def impliedMeaning : ImpliedOp → State → Result State
  | .tax => execTaxImp
  | .tay => execTayImp
  | .tsx => execTsxImp
  | .txa => execTxaImp
  | .txs => execTxsImp
  | .tya => execTyaImp
  | .inx => execInxImp
  | .iny => execInyImp
  | .dex => execDexImp
  | .dey => execDeyImp
  | .pha => execPhaImp
  | .php => execPhpImp
  | .pla => execPlaImp
  | .plp => execPlpImp
  | .clc => execClcImp
  | .sec => execSecImp
  | .cli => execCliImp
  | .sei => execSeiImp
  | .cld => execCldImp
  | .sed => execSedImp
  | .clv => execClvImp
  | .nop => execNopImp
  | .rts => execRtsImp
  | .brk => execBrkImp
  | .rti => execRtiImp

/-- The meaning of a pair. -/
def runForm : Form → State → Result State
  | .read op src, s => readWith (readEffect op) src s
  | .store op m, s => storeOperand m (storedRegister op s) s
  | .modify op m, s => modifyOperand m (modifyEffect op) s
  | .modifyAcc op, s => modifyAccumulator (modifyEffect op) s
  | .branch op d, s => branch (branchTaken op s) d s
  | .jump m, s => jump m s
  | .call w, s => call w s
  | .implied op, s => impliedMeaning op s
  | .unassigned opcode, s => unknownOpcode opcode s

/-- Every arm of the dispatch is the meaning of its pair. -/
theorem exec_eq_runForm (i : Instr) (s : State) : exec i s = runForm i.form s := by
  cases i <;> rfl

/-! ## What every instruction keeps -/

theorem Keeps.readEffect (op : ReadOp) (w : Byte) (s : State) : Keeps s (readEffect op w s) := by
  cases op with
  | adc =>
    simp only [Machine.readEffect, State.adc]
    split <;> exact .of_fields ⟨rfl, rfl, rfl, rfl, rfl, rfl⟩ rfl rfl rfl rfl
  | sbc =>
    simp only [Machine.readEffect, State.sbc]
    split <;> exact .of_fields ⟨rfl, rfl, rfl, rfl, rfl, rfl⟩ rfl rfl rfl rfl
  | _ => exact .of_fields ⟨rfl, rfl, rfl, rfl, rfl, rfl⟩ rfl rfl rfl rfl

theorem Keeps.modifyEffect (op : ModifyOp) (w : Byte) (s : State) : Keeps s (modifyEffect op w s).2 := by
  cases op <;> exact .of_fields ⟨rfl, rfl, rfl, rfl, rfl, rfl⟩ rfl rfl rfl rfl

theorem impliedMeaning_keeps (op : ImpliedOp) (s : State) : KeepsAll s (impliedMeaning op s) := by
  cases op with
  | pha => exact push_keeps _ _
  | php => exact push_keeps _ _
  | pla =>
    rw [impliedMeaning, execPlaImp]
    exact bindVal_keeps (pull_keeps _) fun w t => Keeps.of_fields (t := (t.setA w).setNZ w)
      ⟨rfl, rfl, rfl, rfl, rfl, rfl⟩ rfl rfl rfl rfl
  | plp =>
    rw [impliedMeaning, execPlpImp]
    exact bindVal_keeps (pull_keeps _) fun w t => Keeps.unpack w t
  | rts =>
    rw [impliedMeaning, execRtsImp]
    exact bindVal_keeps (pull16_keeps _) fun w t => Keeps.setPC (w + 1) t
  | brk => exact Leaves.of_keeps (Keeps.setPC (s.pc + 1) s) (trapEntry_keeps _ _ _)
  | rti => exact trapReturn_keeps _
  | _ => exact Keeps.of_fields ⟨rfl, rfl, rfl, rfl, rfl, rfl⟩ rfl rfl rfl rfl

theorem exec_keeps (i : Instr) (s : State) : KeepsAll s (exec i s) := by
  rw [exec_eq_runForm]
  cases i.form with
  | read op src => exact readWith_keeps (Keeps.readEffect op) src s
  | store op m => exact storeOperand_keeps m _ s
  | modify op m => exact modifyOperand_keeps (Keeps.modifyEffect op) m s
  | modifyAcc op =>
    exact (Keeps.modifyEffect op s.a s).trans (.of_fields ⟨rfl, rfl, rfl, rfl, rfl, rfl⟩ rfl rfl rfl rfl)
  | branch op d => exact branch_keeps _ d s
  | jump m => exact jump_keeps m s
  | call w => exact call_keeps w s
  | implied op => exact impliedMeaning_keeps op s
  | unassigned opcode => exact unknownOpcode_keeps opcode s

end Sys2Proof.Machine
end

