-- ==== Sys2Proof/Laws/PerInstr.lean ====
section
/-! SUPPORT. The two families of lemmas made per instruction (LAWS.json): every instruction is well-formed, and its
encoding is as long as its mode says. -/

namespace Sys2Proof.Laws

/-- The pair of the instruction is a cell of the table (30_encoding.md R76, R77). -/
def WellFormed.Statement (i : Instr) : Prop := i.wellFormed = true

/-- The encoding has the length of the mode the decoder finds for its opcode byte (R72). -/
def LengthByMode.Statement (i : Instr) : Prop := (encode i).length = lengthOf i.opcode

theorem WellFormed.brkImp : WellFormed.Statement (.brkImp) := rfl
theorem WellFormed.oraIzx : ∀ b, WellFormed.Statement (.oraIzx b) := fun _ => rfl
theorem WellFormed.unassigned02 : WellFormed.Statement (.unassigned02) := rfl
theorem WellFormed.unassigned03 : WellFormed.Statement (.unassigned03) := rfl
theorem WellFormed.unassigned04 : WellFormed.Statement (.unassigned04) := rfl
theorem WellFormed.oraZp : ∀ b, WellFormed.Statement (.oraZp b) := fun _ => rfl
theorem WellFormed.aslZp : ∀ b, WellFormed.Statement (.aslZp b) := fun _ => rfl
theorem WellFormed.unassigned07 : WellFormed.Statement (.unassigned07) := rfl
theorem WellFormed.phpImp : WellFormed.Statement (.phpImp) := rfl
theorem WellFormed.oraImm : ∀ w, WellFormed.Statement (.oraImm w) := fun _ => rfl
theorem WellFormed.aslAcc : WellFormed.Statement (.aslAcc) := rfl
theorem WellFormed.unassigned0B : WellFormed.Statement (.unassigned0B) := rfl
theorem WellFormed.unassigned0C : WellFormed.Statement (.unassigned0C) := rfl
theorem WellFormed.oraAbs : ∀ w, WellFormed.Statement (.oraAbs w) := fun _ => rfl
theorem WellFormed.aslAbs : ∀ w, WellFormed.Statement (.aslAbs w) := fun _ => rfl
theorem WellFormed.unassigned0F : WellFormed.Statement (.unassigned0F) := rfl
theorem WellFormed.bplRel : ∀ d, WellFormed.Statement (.bplRel d) := fun _ => rfl
theorem WellFormed.oraIzy : ∀ b, WellFormed.Statement (.oraIzy b) := fun _ => rfl
theorem WellFormed.unassigned12 : WellFormed.Statement (.unassigned12) := rfl
theorem WellFormed.unassigned13 : WellFormed.Statement (.unassigned13) := rfl
theorem WellFormed.unassigned14 : WellFormed.Statement (.unassigned14) := rfl
theorem WellFormed.oraZpx : ∀ b, WellFormed.Statement (.oraZpx b) := fun _ => rfl
theorem WellFormed.aslZpx : ∀ b, WellFormed.Statement (.aslZpx b) := fun _ => rfl
theorem WellFormed.unassigned17 : WellFormed.Statement (.unassigned17) := rfl
theorem WellFormed.clcImp : WellFormed.Statement (.clcImp) := rfl
theorem WellFormed.oraAby : ∀ w, WellFormed.Statement (.oraAby w) := fun _ => rfl
theorem WellFormed.unassigned1A : WellFormed.Statement (.unassigned1A) := rfl
theorem WellFormed.unassigned1B : WellFormed.Statement (.unassigned1B) := rfl
theorem WellFormed.unassigned1C : WellFormed.Statement (.unassigned1C) := rfl
theorem WellFormed.oraAbx : ∀ w, WellFormed.Statement (.oraAbx w) := fun _ => rfl
theorem WellFormed.aslAbx : ∀ w, WellFormed.Statement (.aslAbx w) := fun _ => rfl
theorem WellFormed.unassigned1F : WellFormed.Statement (.unassigned1F) := rfl
theorem WellFormed.jsrAbs : ∀ w, WellFormed.Statement (.jsrAbs w) := fun _ => rfl
theorem WellFormed.andIzx : ∀ b, WellFormed.Statement (.andIzx b) := fun _ => rfl
theorem WellFormed.unassigned22 : WellFormed.Statement (.unassigned22) := rfl
theorem WellFormed.unassigned23 : WellFormed.Statement (.unassigned23) := rfl
theorem WellFormed.bitZp : ∀ b, WellFormed.Statement (.bitZp b) := fun _ => rfl
theorem WellFormed.andZp : ∀ b, WellFormed.Statement (.andZp b) := fun _ => rfl
theorem WellFormed.rolZp : ∀ b, WellFormed.Statement (.rolZp b) := fun _ => rfl
theorem WellFormed.unassigned27 : WellFormed.Statement (.unassigned27) := rfl
theorem WellFormed.plpImp : WellFormed.Statement (.plpImp) := rfl
theorem WellFormed.andImm : ∀ w, WellFormed.Statement (.andImm w) := fun _ => rfl
theorem WellFormed.rolAcc : WellFormed.Statement (.rolAcc) := rfl
theorem WellFormed.unassigned2B : WellFormed.Statement (.unassigned2B) := rfl
theorem WellFormed.bitAbs : ∀ w, WellFormed.Statement (.bitAbs w) := fun _ => rfl
theorem WellFormed.andAbs : ∀ w, WellFormed.Statement (.andAbs w) := fun _ => rfl
theorem WellFormed.rolAbs : ∀ w, WellFormed.Statement (.rolAbs w) := fun _ => rfl
theorem WellFormed.unassigned2F : WellFormed.Statement (.unassigned2F) := rfl
theorem WellFormed.bmiRel : ∀ d, WellFormed.Statement (.bmiRel d) := fun _ => rfl
theorem WellFormed.andIzy : ∀ b, WellFormed.Statement (.andIzy b) := fun _ => rfl
theorem WellFormed.unassigned32 : WellFormed.Statement (.unassigned32) := rfl
theorem WellFormed.unassigned33 : WellFormed.Statement (.unassigned33) := rfl
theorem WellFormed.unassigned34 : WellFormed.Statement (.unassigned34) := rfl
theorem WellFormed.andZpx : ∀ b, WellFormed.Statement (.andZpx b) := fun _ => rfl
theorem WellFormed.rolZpx : ∀ b, WellFormed.Statement (.rolZpx b) := fun _ => rfl
theorem WellFormed.unassigned37 : WellFormed.Statement (.unassigned37) := rfl
theorem WellFormed.secImp : WellFormed.Statement (.secImp) := rfl
theorem WellFormed.andAby : ∀ w, WellFormed.Statement (.andAby w) := fun _ => rfl
theorem WellFormed.unassigned3A : WellFormed.Statement (.unassigned3A) := rfl
theorem WellFormed.unassigned3B : WellFormed.Statement (.unassigned3B) := rfl
theorem WellFormed.unassigned3C : WellFormed.Statement (.unassigned3C) := rfl
theorem WellFormed.andAbx : ∀ w, WellFormed.Statement (.andAbx w) := fun _ => rfl
theorem WellFormed.rolAbx : ∀ w, WellFormed.Statement (.rolAbx w) := fun _ => rfl
theorem WellFormed.unassigned3F : WellFormed.Statement (.unassigned3F) := rfl
theorem WellFormed.rtiImp : WellFormed.Statement (.rtiImp) := rfl
theorem WellFormed.eorIzx : ∀ b, WellFormed.Statement (.eorIzx b) := fun _ => rfl
theorem WellFormed.unassigned42 : WellFormed.Statement (.unassigned42) := rfl
theorem WellFormed.unassigned43 : WellFormed.Statement (.unassigned43) := rfl
theorem WellFormed.unassigned44 : WellFormed.Statement (.unassigned44) := rfl
theorem WellFormed.eorZp : ∀ b, WellFormed.Statement (.eorZp b) := fun _ => rfl
theorem WellFormed.lsrZp : ∀ b, WellFormed.Statement (.lsrZp b) := fun _ => rfl
theorem WellFormed.unassigned47 : WellFormed.Statement (.unassigned47) := rfl
theorem WellFormed.phaImp : WellFormed.Statement (.phaImp) := rfl
theorem WellFormed.eorImm : ∀ w, WellFormed.Statement (.eorImm w) := fun _ => rfl
theorem WellFormed.lsrAcc : WellFormed.Statement (.lsrAcc) := rfl
theorem WellFormed.unassigned4B : WellFormed.Statement (.unassigned4B) := rfl
theorem WellFormed.jmpAbs : ∀ w, WellFormed.Statement (.jmpAbs w) := fun _ => rfl
theorem WellFormed.eorAbs : ∀ w, WellFormed.Statement (.eorAbs w) := fun _ => rfl
theorem WellFormed.lsrAbs : ∀ w, WellFormed.Statement (.lsrAbs w) := fun _ => rfl
theorem WellFormed.unassigned4F : WellFormed.Statement (.unassigned4F) := rfl
theorem WellFormed.bvcRel : ∀ d, WellFormed.Statement (.bvcRel d) := fun _ => rfl
theorem WellFormed.eorIzy : ∀ b, WellFormed.Statement (.eorIzy b) := fun _ => rfl
theorem WellFormed.unassigned52 : WellFormed.Statement (.unassigned52) := rfl
theorem WellFormed.unassigned53 : WellFormed.Statement (.unassigned53) := rfl
theorem WellFormed.unassigned54 : WellFormed.Statement (.unassigned54) := rfl
theorem WellFormed.eorZpx : ∀ b, WellFormed.Statement (.eorZpx b) := fun _ => rfl
theorem WellFormed.lsrZpx : ∀ b, WellFormed.Statement (.lsrZpx b) := fun _ => rfl
theorem WellFormed.unassigned57 : WellFormed.Statement (.unassigned57) := rfl
theorem WellFormed.cliImp : WellFormed.Statement (.cliImp) := rfl
theorem WellFormed.eorAby : ∀ w, WellFormed.Statement (.eorAby w) := fun _ => rfl
theorem WellFormed.unassigned5A : WellFormed.Statement (.unassigned5A) := rfl
theorem WellFormed.unassigned5B : WellFormed.Statement (.unassigned5B) := rfl
theorem WellFormed.unassigned5C : WellFormed.Statement (.unassigned5C) := rfl
theorem WellFormed.eorAbx : ∀ w, WellFormed.Statement (.eorAbx w) := fun _ => rfl
theorem WellFormed.lsrAbx : ∀ w, WellFormed.Statement (.lsrAbx w) := fun _ => rfl
theorem WellFormed.unassigned5F : WellFormed.Statement (.unassigned5F) := rfl
theorem WellFormed.rtsImp : WellFormed.Statement (.rtsImp) := rfl
theorem WellFormed.adcIzx : ∀ b, WellFormed.Statement (.adcIzx b) := fun _ => rfl
theorem WellFormed.unassigned62 : WellFormed.Statement (.unassigned62) := rfl
theorem WellFormed.unassigned63 : WellFormed.Statement (.unassigned63) := rfl
theorem WellFormed.unassigned64 : WellFormed.Statement (.unassigned64) := rfl
theorem WellFormed.adcZp : ∀ b, WellFormed.Statement (.adcZp b) := fun _ => rfl
theorem WellFormed.rorZp : ∀ b, WellFormed.Statement (.rorZp b) := fun _ => rfl
theorem WellFormed.unassigned67 : WellFormed.Statement (.unassigned67) := rfl
theorem WellFormed.plaImp : WellFormed.Statement (.plaImp) := rfl
theorem WellFormed.adcImm : ∀ w, WellFormed.Statement (.adcImm w) := fun _ => rfl
theorem WellFormed.rorAcc : WellFormed.Statement (.rorAcc) := rfl
theorem WellFormed.unassigned6B : WellFormed.Statement (.unassigned6B) := rfl
theorem WellFormed.jmpInd : ∀ w, WellFormed.Statement (.jmpInd w) := fun _ => rfl
theorem WellFormed.adcAbs : ∀ w, WellFormed.Statement (.adcAbs w) := fun _ => rfl
theorem WellFormed.rorAbs : ∀ w, WellFormed.Statement (.rorAbs w) := fun _ => rfl
theorem WellFormed.unassigned6F : WellFormed.Statement (.unassigned6F) := rfl
theorem WellFormed.bvsRel : ∀ d, WellFormed.Statement (.bvsRel d) := fun _ => rfl
theorem WellFormed.adcIzy : ∀ b, WellFormed.Statement (.adcIzy b) := fun _ => rfl
theorem WellFormed.unassigned72 : WellFormed.Statement (.unassigned72) := rfl
theorem WellFormed.unassigned73 : WellFormed.Statement (.unassigned73) := rfl
theorem WellFormed.unassigned74 : WellFormed.Statement (.unassigned74) := rfl
theorem WellFormed.adcZpx : ∀ b, WellFormed.Statement (.adcZpx b) := fun _ => rfl
theorem WellFormed.rorZpx : ∀ b, WellFormed.Statement (.rorZpx b) := fun _ => rfl
theorem WellFormed.unassigned77 : WellFormed.Statement (.unassigned77) := rfl
theorem WellFormed.seiImp : WellFormed.Statement (.seiImp) := rfl
theorem WellFormed.adcAby : ∀ w, WellFormed.Statement (.adcAby w) := fun _ => rfl
theorem WellFormed.unassigned7A : WellFormed.Statement (.unassigned7A) := rfl
theorem WellFormed.unassigned7B : WellFormed.Statement (.unassigned7B) := rfl
theorem WellFormed.unassigned7C : WellFormed.Statement (.unassigned7C) := rfl
theorem WellFormed.adcAbx : ∀ w, WellFormed.Statement (.adcAbx w) := fun _ => rfl
theorem WellFormed.rorAbx : ∀ w, WellFormed.Statement (.rorAbx w) := fun _ => rfl
theorem WellFormed.unassigned7F : WellFormed.Statement (.unassigned7F) := rfl
theorem WellFormed.unassigned80 : WellFormed.Statement (.unassigned80) := rfl
theorem WellFormed.staIzx : ∀ b, WellFormed.Statement (.staIzx b) := fun _ => rfl
theorem WellFormed.unassigned82 : WellFormed.Statement (.unassigned82) := rfl
theorem WellFormed.unassigned83 : WellFormed.Statement (.unassigned83) := rfl
theorem WellFormed.styZp : ∀ b, WellFormed.Statement (.styZp b) := fun _ => rfl
theorem WellFormed.staZp : ∀ b, WellFormed.Statement (.staZp b) := fun _ => rfl
theorem WellFormed.stxZp : ∀ b, WellFormed.Statement (.stxZp b) := fun _ => rfl
theorem WellFormed.unassigned87 : WellFormed.Statement (.unassigned87) := rfl
theorem WellFormed.deyImp : WellFormed.Statement (.deyImp) := rfl
theorem WellFormed.unassigned89 : WellFormed.Statement (.unassigned89) := rfl
theorem WellFormed.txaImp : WellFormed.Statement (.txaImp) := rfl
theorem WellFormed.unassigned8B : WellFormed.Statement (.unassigned8B) := rfl
theorem WellFormed.styAbs : ∀ w, WellFormed.Statement (.styAbs w) := fun _ => rfl
theorem WellFormed.staAbs : ∀ w, WellFormed.Statement (.staAbs w) := fun _ => rfl
theorem WellFormed.stxAbs : ∀ w, WellFormed.Statement (.stxAbs w) := fun _ => rfl
theorem WellFormed.unassigned8F : WellFormed.Statement (.unassigned8F) := rfl
theorem WellFormed.bccRel : ∀ d, WellFormed.Statement (.bccRel d) := fun _ => rfl
theorem WellFormed.staIzy : ∀ b, WellFormed.Statement (.staIzy b) := fun _ => rfl
theorem WellFormed.unassigned92 : WellFormed.Statement (.unassigned92) := rfl
theorem WellFormed.unassigned93 : WellFormed.Statement (.unassigned93) := rfl
theorem WellFormed.styZpx : ∀ b, WellFormed.Statement (.styZpx b) := fun _ => rfl
theorem WellFormed.staZpx : ∀ b, WellFormed.Statement (.staZpx b) := fun _ => rfl
theorem WellFormed.stxZpy : ∀ b, WellFormed.Statement (.stxZpy b) := fun _ => rfl
theorem WellFormed.unassigned97 : WellFormed.Statement (.unassigned97) := rfl
theorem WellFormed.tyaImp : WellFormed.Statement (.tyaImp) := rfl
theorem WellFormed.staAby : ∀ w, WellFormed.Statement (.staAby w) := fun _ => rfl
theorem WellFormed.txsImp : WellFormed.Statement (.txsImp) := rfl
theorem WellFormed.unassigned9B : WellFormed.Statement (.unassigned9B) := rfl
theorem WellFormed.unassigned9C : WellFormed.Statement (.unassigned9C) := rfl
theorem WellFormed.staAbx : ∀ w, WellFormed.Statement (.staAbx w) := fun _ => rfl
theorem WellFormed.unassigned9E : WellFormed.Statement (.unassigned9E) := rfl
theorem WellFormed.unassigned9F : WellFormed.Statement (.unassigned9F) := rfl
theorem WellFormed.ldyImm : ∀ w, WellFormed.Statement (.ldyImm w) := fun _ => rfl
theorem WellFormed.ldaIzx : ∀ b, WellFormed.Statement (.ldaIzx b) := fun _ => rfl
theorem WellFormed.ldxImm : ∀ w, WellFormed.Statement (.ldxImm w) := fun _ => rfl
theorem WellFormed.unassignedA3 : WellFormed.Statement (.unassignedA3) := rfl
theorem WellFormed.ldyZp : ∀ b, WellFormed.Statement (.ldyZp b) := fun _ => rfl
theorem WellFormed.ldaZp : ∀ b, WellFormed.Statement (.ldaZp b) := fun _ => rfl
theorem WellFormed.ldxZp : ∀ b, WellFormed.Statement (.ldxZp b) := fun _ => rfl
theorem WellFormed.unassignedA7 : WellFormed.Statement (.unassignedA7) := rfl
theorem WellFormed.tayImp : WellFormed.Statement (.tayImp) := rfl
theorem WellFormed.ldaImm : ∀ w, WellFormed.Statement (.ldaImm w) := fun _ => rfl
theorem WellFormed.taxImp : WellFormed.Statement (.taxImp) := rfl
theorem WellFormed.unassignedAB : WellFormed.Statement (.unassignedAB) := rfl
theorem WellFormed.ldyAbs : ∀ w, WellFormed.Statement (.ldyAbs w) := fun _ => rfl
theorem WellFormed.ldaAbs : ∀ w, WellFormed.Statement (.ldaAbs w) := fun _ => rfl
theorem WellFormed.ldxAbs : ∀ w, WellFormed.Statement (.ldxAbs w) := fun _ => rfl
theorem WellFormed.unassignedAF : WellFormed.Statement (.unassignedAF) := rfl
theorem WellFormed.bcsRel : ∀ d, WellFormed.Statement (.bcsRel d) := fun _ => rfl
theorem WellFormed.ldaIzy : ∀ b, WellFormed.Statement (.ldaIzy b) := fun _ => rfl
theorem WellFormed.unassignedB2 : WellFormed.Statement (.unassignedB2) := rfl
theorem WellFormed.unassignedB3 : WellFormed.Statement (.unassignedB3) := rfl
theorem WellFormed.ldyZpx : ∀ b, WellFormed.Statement (.ldyZpx b) := fun _ => rfl
theorem WellFormed.ldaZpx : ∀ b, WellFormed.Statement (.ldaZpx b) := fun _ => rfl
theorem WellFormed.ldxZpy : ∀ b, WellFormed.Statement (.ldxZpy b) := fun _ => rfl
theorem WellFormed.unassignedB7 : WellFormed.Statement (.unassignedB7) := rfl
theorem WellFormed.clvImp : WellFormed.Statement (.clvImp) := rfl
theorem WellFormed.ldaAby : ∀ w, WellFormed.Statement (.ldaAby w) := fun _ => rfl
theorem WellFormed.tsxImp : WellFormed.Statement (.tsxImp) := rfl
theorem WellFormed.unassignedBB : WellFormed.Statement (.unassignedBB) := rfl
theorem WellFormed.ldyAbx : ∀ w, WellFormed.Statement (.ldyAbx w) := fun _ => rfl
theorem WellFormed.ldaAbx : ∀ w, WellFormed.Statement (.ldaAbx w) := fun _ => rfl
theorem WellFormed.ldxAby : ∀ w, WellFormed.Statement (.ldxAby w) := fun _ => rfl
theorem WellFormed.unassignedBF : WellFormed.Statement (.unassignedBF) := rfl
theorem WellFormed.cpyImm : ∀ w, WellFormed.Statement (.cpyImm w) := fun _ => rfl
theorem WellFormed.cmpIzx : ∀ b, WellFormed.Statement (.cmpIzx b) := fun _ => rfl
theorem WellFormed.unassignedC2 : WellFormed.Statement (.unassignedC2) := rfl
theorem WellFormed.unassignedC3 : WellFormed.Statement (.unassignedC3) := rfl
theorem WellFormed.cpyZp : ∀ b, WellFormed.Statement (.cpyZp b) := fun _ => rfl
theorem WellFormed.cmpZp : ∀ b, WellFormed.Statement (.cmpZp b) := fun _ => rfl
theorem WellFormed.decZp : ∀ b, WellFormed.Statement (.decZp b) := fun _ => rfl
theorem WellFormed.unassignedC7 : WellFormed.Statement (.unassignedC7) := rfl
theorem WellFormed.inyImp : WellFormed.Statement (.inyImp) := rfl
theorem WellFormed.cmpImm : ∀ w, WellFormed.Statement (.cmpImm w) := fun _ => rfl
theorem WellFormed.dexImp : WellFormed.Statement (.dexImp) := rfl
theorem WellFormed.unassignedCB : WellFormed.Statement (.unassignedCB) := rfl
theorem WellFormed.cpyAbs : ∀ w, WellFormed.Statement (.cpyAbs w) := fun _ => rfl
theorem WellFormed.cmpAbs : ∀ w, WellFormed.Statement (.cmpAbs w) := fun _ => rfl
theorem WellFormed.decAbs : ∀ w, WellFormed.Statement (.decAbs w) := fun _ => rfl
theorem WellFormed.unassignedCF : WellFormed.Statement (.unassignedCF) := rfl
theorem WellFormed.bneRel : ∀ d, WellFormed.Statement (.bneRel d) := fun _ => rfl
theorem WellFormed.cmpIzy : ∀ b, WellFormed.Statement (.cmpIzy b) := fun _ => rfl
theorem WellFormed.unassignedD2 : WellFormed.Statement (.unassignedD2) := rfl
theorem WellFormed.unassignedD3 : WellFormed.Statement (.unassignedD3) := rfl
theorem WellFormed.unassignedD4 : WellFormed.Statement (.unassignedD4) := rfl
theorem WellFormed.cmpZpx : ∀ b, WellFormed.Statement (.cmpZpx b) := fun _ => rfl
theorem WellFormed.decZpx : ∀ b, WellFormed.Statement (.decZpx b) := fun _ => rfl
theorem WellFormed.unassignedD7 : WellFormed.Statement (.unassignedD7) := rfl
theorem WellFormed.cldImp : WellFormed.Statement (.cldImp) := rfl
theorem WellFormed.cmpAby : ∀ w, WellFormed.Statement (.cmpAby w) := fun _ => rfl
theorem WellFormed.unassignedDA : WellFormed.Statement (.unassignedDA) := rfl
theorem WellFormed.unassignedDB : WellFormed.Statement (.unassignedDB) := rfl
theorem WellFormed.unassignedDC : WellFormed.Statement (.unassignedDC) := rfl
theorem WellFormed.cmpAbx : ∀ w, WellFormed.Statement (.cmpAbx w) := fun _ => rfl
theorem WellFormed.decAbx : ∀ w, WellFormed.Statement (.decAbx w) := fun _ => rfl
theorem WellFormed.unassignedDF : WellFormed.Statement (.unassignedDF) := rfl
theorem WellFormed.cpxImm : ∀ w, WellFormed.Statement (.cpxImm w) := fun _ => rfl
theorem WellFormed.sbcIzx : ∀ b, WellFormed.Statement (.sbcIzx b) := fun _ => rfl
theorem WellFormed.unassignedE2 : WellFormed.Statement (.unassignedE2) := rfl
theorem WellFormed.unassignedE3 : WellFormed.Statement (.unassignedE3) := rfl
theorem WellFormed.cpxZp : ∀ b, WellFormed.Statement (.cpxZp b) := fun _ => rfl
theorem WellFormed.sbcZp : ∀ b, WellFormed.Statement (.sbcZp b) := fun _ => rfl
theorem WellFormed.incZp : ∀ b, WellFormed.Statement (.incZp b) := fun _ => rfl
theorem WellFormed.unassignedE7 : WellFormed.Statement (.unassignedE7) := rfl
theorem WellFormed.inxImp : WellFormed.Statement (.inxImp) := rfl
theorem WellFormed.sbcImm : ∀ w, WellFormed.Statement (.sbcImm w) := fun _ => rfl
theorem WellFormed.nopImp : WellFormed.Statement (.nopImp) := rfl
theorem WellFormed.unassignedEB : WellFormed.Statement (.unassignedEB) := rfl
theorem WellFormed.cpxAbs : ∀ w, WellFormed.Statement (.cpxAbs w) := fun _ => rfl
theorem WellFormed.sbcAbs : ∀ w, WellFormed.Statement (.sbcAbs w) := fun _ => rfl
theorem WellFormed.incAbs : ∀ w, WellFormed.Statement (.incAbs w) := fun _ => rfl
theorem WellFormed.unassignedEF : WellFormed.Statement (.unassignedEF) := rfl
theorem WellFormed.beqRel : ∀ d, WellFormed.Statement (.beqRel d) := fun _ => rfl
theorem WellFormed.sbcIzy : ∀ b, WellFormed.Statement (.sbcIzy b) := fun _ => rfl
theorem WellFormed.unassignedF2 : WellFormed.Statement (.unassignedF2) := rfl
theorem WellFormed.unassignedF3 : WellFormed.Statement (.unassignedF3) := rfl
theorem WellFormed.unassignedF4 : WellFormed.Statement (.unassignedF4) := rfl
theorem WellFormed.sbcZpx : ∀ b, WellFormed.Statement (.sbcZpx b) := fun _ => rfl
theorem WellFormed.incZpx : ∀ b, WellFormed.Statement (.incZpx b) := fun _ => rfl
theorem WellFormed.unassignedF7 : WellFormed.Statement (.unassignedF7) := rfl
theorem WellFormed.sedImp : WellFormed.Statement (.sedImp) := rfl
theorem WellFormed.sbcAby : ∀ w, WellFormed.Statement (.sbcAby w) := fun _ => rfl
theorem WellFormed.unassignedFA : WellFormed.Statement (.unassignedFA) := rfl
theorem WellFormed.unassignedFB : WellFormed.Statement (.unassignedFB) := rfl
theorem WellFormed.unassignedFC : WellFormed.Statement (.unassignedFC) := rfl
theorem WellFormed.sbcAbx : ∀ w, WellFormed.Statement (.sbcAbx w) := fun _ => rfl
theorem WellFormed.incAbx : ∀ w, WellFormed.Statement (.incAbx w) := fun _ => rfl
theorem WellFormed.unassignedFF : WellFormed.Statement (.unassignedFF) := rfl

theorem LengthByMode.brkImp : LengthByMode.Statement (.brkImp) := rfl
theorem LengthByMode.oraIzx : ∀ b, LengthByMode.Statement (.oraIzx b) := fun _ => rfl
theorem LengthByMode.unassigned02 : LengthByMode.Statement (.unassigned02) := rfl
theorem LengthByMode.unassigned03 : LengthByMode.Statement (.unassigned03) := rfl
theorem LengthByMode.unassigned04 : LengthByMode.Statement (.unassigned04) := rfl
theorem LengthByMode.oraZp : ∀ b, LengthByMode.Statement (.oraZp b) := fun _ => rfl
theorem LengthByMode.aslZp : ∀ b, LengthByMode.Statement (.aslZp b) := fun _ => rfl
theorem LengthByMode.unassigned07 : LengthByMode.Statement (.unassigned07) := rfl
theorem LengthByMode.phpImp : LengthByMode.Statement (.phpImp) := rfl
theorem LengthByMode.oraImm : ∀ w, LengthByMode.Statement (.oraImm w) := fun _ => rfl
theorem LengthByMode.aslAcc : LengthByMode.Statement (.aslAcc) := rfl
theorem LengthByMode.unassigned0B : LengthByMode.Statement (.unassigned0B) := rfl
theorem LengthByMode.unassigned0C : LengthByMode.Statement (.unassigned0C) := rfl
theorem LengthByMode.oraAbs : ∀ w, LengthByMode.Statement (.oraAbs w) := fun _ => rfl
theorem LengthByMode.aslAbs : ∀ w, LengthByMode.Statement (.aslAbs w) := fun _ => rfl
theorem LengthByMode.unassigned0F : LengthByMode.Statement (.unassigned0F) := rfl
theorem LengthByMode.bplRel : ∀ d, LengthByMode.Statement (.bplRel d) := fun _ => rfl
theorem LengthByMode.oraIzy : ∀ b, LengthByMode.Statement (.oraIzy b) := fun _ => rfl
theorem LengthByMode.unassigned12 : LengthByMode.Statement (.unassigned12) := rfl
theorem LengthByMode.unassigned13 : LengthByMode.Statement (.unassigned13) := rfl
theorem LengthByMode.unassigned14 : LengthByMode.Statement (.unassigned14) := rfl
theorem LengthByMode.oraZpx : ∀ b, LengthByMode.Statement (.oraZpx b) := fun _ => rfl
theorem LengthByMode.aslZpx : ∀ b, LengthByMode.Statement (.aslZpx b) := fun _ => rfl
theorem LengthByMode.unassigned17 : LengthByMode.Statement (.unassigned17) := rfl
theorem LengthByMode.clcImp : LengthByMode.Statement (.clcImp) := rfl
theorem LengthByMode.oraAby : ∀ w, LengthByMode.Statement (.oraAby w) := fun _ => rfl
theorem LengthByMode.unassigned1A : LengthByMode.Statement (.unassigned1A) := rfl
theorem LengthByMode.unassigned1B : LengthByMode.Statement (.unassigned1B) := rfl
theorem LengthByMode.unassigned1C : LengthByMode.Statement (.unassigned1C) := rfl
theorem LengthByMode.oraAbx : ∀ w, LengthByMode.Statement (.oraAbx w) := fun _ => rfl
theorem LengthByMode.aslAbx : ∀ w, LengthByMode.Statement (.aslAbx w) := fun _ => rfl
theorem LengthByMode.unassigned1F : LengthByMode.Statement (.unassigned1F) := rfl
theorem LengthByMode.jsrAbs : ∀ w, LengthByMode.Statement (.jsrAbs w) := fun _ => rfl
theorem LengthByMode.andIzx : ∀ b, LengthByMode.Statement (.andIzx b) := fun _ => rfl
theorem LengthByMode.unassigned22 : LengthByMode.Statement (.unassigned22) := rfl
theorem LengthByMode.unassigned23 : LengthByMode.Statement (.unassigned23) := rfl
theorem LengthByMode.bitZp : ∀ b, LengthByMode.Statement (.bitZp b) := fun _ => rfl
theorem LengthByMode.andZp : ∀ b, LengthByMode.Statement (.andZp b) := fun _ => rfl
theorem LengthByMode.rolZp : ∀ b, LengthByMode.Statement (.rolZp b) := fun _ => rfl
theorem LengthByMode.unassigned27 : LengthByMode.Statement (.unassigned27) := rfl
theorem LengthByMode.plpImp : LengthByMode.Statement (.plpImp) := rfl
theorem LengthByMode.andImm : ∀ w, LengthByMode.Statement (.andImm w) := fun _ => rfl
theorem LengthByMode.rolAcc : LengthByMode.Statement (.rolAcc) := rfl
theorem LengthByMode.unassigned2B : LengthByMode.Statement (.unassigned2B) := rfl
theorem LengthByMode.bitAbs : ∀ w, LengthByMode.Statement (.bitAbs w) := fun _ => rfl
theorem LengthByMode.andAbs : ∀ w, LengthByMode.Statement (.andAbs w) := fun _ => rfl
theorem LengthByMode.rolAbs : ∀ w, LengthByMode.Statement (.rolAbs w) := fun _ => rfl
theorem LengthByMode.unassigned2F : LengthByMode.Statement (.unassigned2F) := rfl
theorem LengthByMode.bmiRel : ∀ d, LengthByMode.Statement (.bmiRel d) := fun _ => rfl
theorem LengthByMode.andIzy : ∀ b, LengthByMode.Statement (.andIzy b) := fun _ => rfl
theorem LengthByMode.unassigned32 : LengthByMode.Statement (.unassigned32) := rfl
theorem LengthByMode.unassigned33 : LengthByMode.Statement (.unassigned33) := rfl
theorem LengthByMode.unassigned34 : LengthByMode.Statement (.unassigned34) := rfl
theorem LengthByMode.andZpx : ∀ b, LengthByMode.Statement (.andZpx b) := fun _ => rfl
theorem LengthByMode.rolZpx : ∀ b, LengthByMode.Statement (.rolZpx b) := fun _ => rfl
theorem LengthByMode.unassigned37 : LengthByMode.Statement (.unassigned37) := rfl
theorem LengthByMode.secImp : LengthByMode.Statement (.secImp) := rfl
theorem LengthByMode.andAby : ∀ w, LengthByMode.Statement (.andAby w) := fun _ => rfl
theorem LengthByMode.unassigned3A : LengthByMode.Statement (.unassigned3A) := rfl
theorem LengthByMode.unassigned3B : LengthByMode.Statement (.unassigned3B) := rfl
theorem LengthByMode.unassigned3C : LengthByMode.Statement (.unassigned3C) := rfl
theorem LengthByMode.andAbx : ∀ w, LengthByMode.Statement (.andAbx w) := fun _ => rfl
theorem LengthByMode.rolAbx : ∀ w, LengthByMode.Statement (.rolAbx w) := fun _ => rfl
theorem LengthByMode.unassigned3F : LengthByMode.Statement (.unassigned3F) := rfl
theorem LengthByMode.rtiImp : LengthByMode.Statement (.rtiImp) := rfl
theorem LengthByMode.eorIzx : ∀ b, LengthByMode.Statement (.eorIzx b) := fun _ => rfl
theorem LengthByMode.unassigned42 : LengthByMode.Statement (.unassigned42) := rfl
theorem LengthByMode.unassigned43 : LengthByMode.Statement (.unassigned43) := rfl
theorem LengthByMode.unassigned44 : LengthByMode.Statement (.unassigned44) := rfl
theorem LengthByMode.eorZp : ∀ b, LengthByMode.Statement (.eorZp b) := fun _ => rfl
theorem LengthByMode.lsrZp : ∀ b, LengthByMode.Statement (.lsrZp b) := fun _ => rfl
theorem LengthByMode.unassigned47 : LengthByMode.Statement (.unassigned47) := rfl
theorem LengthByMode.phaImp : LengthByMode.Statement (.phaImp) := rfl
theorem LengthByMode.eorImm : ∀ w, LengthByMode.Statement (.eorImm w) := fun _ => rfl
theorem LengthByMode.lsrAcc : LengthByMode.Statement (.lsrAcc) := rfl
theorem LengthByMode.unassigned4B : LengthByMode.Statement (.unassigned4B) := rfl
theorem LengthByMode.jmpAbs : ∀ w, LengthByMode.Statement (.jmpAbs w) := fun _ => rfl
theorem LengthByMode.eorAbs : ∀ w, LengthByMode.Statement (.eorAbs w) := fun _ => rfl
theorem LengthByMode.lsrAbs : ∀ w, LengthByMode.Statement (.lsrAbs w) := fun _ => rfl
theorem LengthByMode.unassigned4F : LengthByMode.Statement (.unassigned4F) := rfl
theorem LengthByMode.bvcRel : ∀ d, LengthByMode.Statement (.bvcRel d) := fun _ => rfl
theorem LengthByMode.eorIzy : ∀ b, LengthByMode.Statement (.eorIzy b) := fun _ => rfl
theorem LengthByMode.unassigned52 : LengthByMode.Statement (.unassigned52) := rfl
theorem LengthByMode.unassigned53 : LengthByMode.Statement (.unassigned53) := rfl
theorem LengthByMode.unassigned54 : LengthByMode.Statement (.unassigned54) := rfl
theorem LengthByMode.eorZpx : ∀ b, LengthByMode.Statement (.eorZpx b) := fun _ => rfl
theorem LengthByMode.lsrZpx : ∀ b, LengthByMode.Statement (.lsrZpx b) := fun _ => rfl
theorem LengthByMode.unassigned57 : LengthByMode.Statement (.unassigned57) := rfl
theorem LengthByMode.cliImp : LengthByMode.Statement (.cliImp) := rfl
theorem LengthByMode.eorAby : ∀ w, LengthByMode.Statement (.eorAby w) := fun _ => rfl
theorem LengthByMode.unassigned5A : LengthByMode.Statement (.unassigned5A) := rfl
theorem LengthByMode.unassigned5B : LengthByMode.Statement (.unassigned5B) := rfl
theorem LengthByMode.unassigned5C : LengthByMode.Statement (.unassigned5C) := rfl
theorem LengthByMode.eorAbx : ∀ w, LengthByMode.Statement (.eorAbx w) := fun _ => rfl
theorem LengthByMode.lsrAbx : ∀ w, LengthByMode.Statement (.lsrAbx w) := fun _ => rfl
theorem LengthByMode.unassigned5F : LengthByMode.Statement (.unassigned5F) := rfl
theorem LengthByMode.rtsImp : LengthByMode.Statement (.rtsImp) := rfl
theorem LengthByMode.adcIzx : ∀ b, LengthByMode.Statement (.adcIzx b) := fun _ => rfl
theorem LengthByMode.unassigned62 : LengthByMode.Statement (.unassigned62) := rfl
theorem LengthByMode.unassigned63 : LengthByMode.Statement (.unassigned63) := rfl
theorem LengthByMode.unassigned64 : LengthByMode.Statement (.unassigned64) := rfl
theorem LengthByMode.adcZp : ∀ b, LengthByMode.Statement (.adcZp b) := fun _ => rfl
theorem LengthByMode.rorZp : ∀ b, LengthByMode.Statement (.rorZp b) := fun _ => rfl
theorem LengthByMode.unassigned67 : LengthByMode.Statement (.unassigned67) := rfl
theorem LengthByMode.plaImp : LengthByMode.Statement (.plaImp) := rfl
theorem LengthByMode.adcImm : ∀ w, LengthByMode.Statement (.adcImm w) := fun _ => rfl
theorem LengthByMode.rorAcc : LengthByMode.Statement (.rorAcc) := rfl
theorem LengthByMode.unassigned6B : LengthByMode.Statement (.unassigned6B) := rfl
theorem LengthByMode.jmpInd : ∀ w, LengthByMode.Statement (.jmpInd w) := fun _ => rfl
theorem LengthByMode.adcAbs : ∀ w, LengthByMode.Statement (.adcAbs w) := fun _ => rfl
theorem LengthByMode.rorAbs : ∀ w, LengthByMode.Statement (.rorAbs w) := fun _ => rfl
theorem LengthByMode.unassigned6F : LengthByMode.Statement (.unassigned6F) := rfl
theorem LengthByMode.bvsRel : ∀ d, LengthByMode.Statement (.bvsRel d) := fun _ => rfl
theorem LengthByMode.adcIzy : ∀ b, LengthByMode.Statement (.adcIzy b) := fun _ => rfl
theorem LengthByMode.unassigned72 : LengthByMode.Statement (.unassigned72) := rfl
theorem LengthByMode.unassigned73 : LengthByMode.Statement (.unassigned73) := rfl
theorem LengthByMode.unassigned74 : LengthByMode.Statement (.unassigned74) := rfl
theorem LengthByMode.adcZpx : ∀ b, LengthByMode.Statement (.adcZpx b) := fun _ => rfl
theorem LengthByMode.rorZpx : ∀ b, LengthByMode.Statement (.rorZpx b) := fun _ => rfl
theorem LengthByMode.unassigned77 : LengthByMode.Statement (.unassigned77) := rfl
theorem LengthByMode.seiImp : LengthByMode.Statement (.seiImp) := rfl
theorem LengthByMode.adcAby : ∀ w, LengthByMode.Statement (.adcAby w) := fun _ => rfl
theorem LengthByMode.unassigned7A : LengthByMode.Statement (.unassigned7A) := rfl
theorem LengthByMode.unassigned7B : LengthByMode.Statement (.unassigned7B) := rfl
theorem LengthByMode.unassigned7C : LengthByMode.Statement (.unassigned7C) := rfl
theorem LengthByMode.adcAbx : ∀ w, LengthByMode.Statement (.adcAbx w) := fun _ => rfl
theorem LengthByMode.rorAbx : ∀ w, LengthByMode.Statement (.rorAbx w) := fun _ => rfl
theorem LengthByMode.unassigned7F : LengthByMode.Statement (.unassigned7F) := rfl
theorem LengthByMode.unassigned80 : LengthByMode.Statement (.unassigned80) := rfl
theorem LengthByMode.staIzx : ∀ b, LengthByMode.Statement (.staIzx b) := fun _ => rfl
theorem LengthByMode.unassigned82 : LengthByMode.Statement (.unassigned82) := rfl
theorem LengthByMode.unassigned83 : LengthByMode.Statement (.unassigned83) := rfl
theorem LengthByMode.styZp : ∀ b, LengthByMode.Statement (.styZp b) := fun _ => rfl
theorem LengthByMode.staZp : ∀ b, LengthByMode.Statement (.staZp b) := fun _ => rfl
theorem LengthByMode.stxZp : ∀ b, LengthByMode.Statement (.stxZp b) := fun _ => rfl
theorem LengthByMode.unassigned87 : LengthByMode.Statement (.unassigned87) := rfl
theorem LengthByMode.deyImp : LengthByMode.Statement (.deyImp) := rfl
theorem LengthByMode.unassigned89 : LengthByMode.Statement (.unassigned89) := rfl
theorem LengthByMode.txaImp : LengthByMode.Statement (.txaImp) := rfl
theorem LengthByMode.unassigned8B : LengthByMode.Statement (.unassigned8B) := rfl
theorem LengthByMode.styAbs : ∀ w, LengthByMode.Statement (.styAbs w) := fun _ => rfl
theorem LengthByMode.staAbs : ∀ w, LengthByMode.Statement (.staAbs w) := fun _ => rfl
theorem LengthByMode.stxAbs : ∀ w, LengthByMode.Statement (.stxAbs w) := fun _ => rfl
theorem LengthByMode.unassigned8F : LengthByMode.Statement (.unassigned8F) := rfl
theorem LengthByMode.bccRel : ∀ d, LengthByMode.Statement (.bccRel d) := fun _ => rfl
theorem LengthByMode.staIzy : ∀ b, LengthByMode.Statement (.staIzy b) := fun _ => rfl
theorem LengthByMode.unassigned92 : LengthByMode.Statement (.unassigned92) := rfl
theorem LengthByMode.unassigned93 : LengthByMode.Statement (.unassigned93) := rfl
theorem LengthByMode.styZpx : ∀ b, LengthByMode.Statement (.styZpx b) := fun _ => rfl
theorem LengthByMode.staZpx : ∀ b, LengthByMode.Statement (.staZpx b) := fun _ => rfl
theorem LengthByMode.stxZpy : ∀ b, LengthByMode.Statement (.stxZpy b) := fun _ => rfl
theorem LengthByMode.unassigned97 : LengthByMode.Statement (.unassigned97) := rfl
theorem LengthByMode.tyaImp : LengthByMode.Statement (.tyaImp) := rfl
theorem LengthByMode.staAby : ∀ w, LengthByMode.Statement (.staAby w) := fun _ => rfl
theorem LengthByMode.txsImp : LengthByMode.Statement (.txsImp) := rfl
theorem LengthByMode.unassigned9B : LengthByMode.Statement (.unassigned9B) := rfl
theorem LengthByMode.unassigned9C : LengthByMode.Statement (.unassigned9C) := rfl
theorem LengthByMode.staAbx : ∀ w, LengthByMode.Statement (.staAbx w) := fun _ => rfl
theorem LengthByMode.unassigned9E : LengthByMode.Statement (.unassigned9E) := rfl
theorem LengthByMode.unassigned9F : LengthByMode.Statement (.unassigned9F) := rfl
theorem LengthByMode.ldyImm : ∀ w, LengthByMode.Statement (.ldyImm w) := fun _ => rfl
theorem LengthByMode.ldaIzx : ∀ b, LengthByMode.Statement (.ldaIzx b) := fun _ => rfl
theorem LengthByMode.ldxImm : ∀ w, LengthByMode.Statement (.ldxImm w) := fun _ => rfl
theorem LengthByMode.unassignedA3 : LengthByMode.Statement (.unassignedA3) := rfl
theorem LengthByMode.ldyZp : ∀ b, LengthByMode.Statement (.ldyZp b) := fun _ => rfl
theorem LengthByMode.ldaZp : ∀ b, LengthByMode.Statement (.ldaZp b) := fun _ => rfl
theorem LengthByMode.ldxZp : ∀ b, LengthByMode.Statement (.ldxZp b) := fun _ => rfl
theorem LengthByMode.unassignedA7 : LengthByMode.Statement (.unassignedA7) := rfl
theorem LengthByMode.tayImp : LengthByMode.Statement (.tayImp) := rfl
theorem LengthByMode.ldaImm : ∀ w, LengthByMode.Statement (.ldaImm w) := fun _ => rfl
theorem LengthByMode.taxImp : LengthByMode.Statement (.taxImp) := rfl
theorem LengthByMode.unassignedAB : LengthByMode.Statement (.unassignedAB) := rfl
theorem LengthByMode.ldyAbs : ∀ w, LengthByMode.Statement (.ldyAbs w) := fun _ => rfl
theorem LengthByMode.ldaAbs : ∀ w, LengthByMode.Statement (.ldaAbs w) := fun _ => rfl
theorem LengthByMode.ldxAbs : ∀ w, LengthByMode.Statement (.ldxAbs w) := fun _ => rfl
theorem LengthByMode.unassignedAF : LengthByMode.Statement (.unassignedAF) := rfl
theorem LengthByMode.bcsRel : ∀ d, LengthByMode.Statement (.bcsRel d) := fun _ => rfl
theorem LengthByMode.ldaIzy : ∀ b, LengthByMode.Statement (.ldaIzy b) := fun _ => rfl
theorem LengthByMode.unassignedB2 : LengthByMode.Statement (.unassignedB2) := rfl
theorem LengthByMode.unassignedB3 : LengthByMode.Statement (.unassignedB3) := rfl
theorem LengthByMode.ldyZpx : ∀ b, LengthByMode.Statement (.ldyZpx b) := fun _ => rfl
theorem LengthByMode.ldaZpx : ∀ b, LengthByMode.Statement (.ldaZpx b) := fun _ => rfl
theorem LengthByMode.ldxZpy : ∀ b, LengthByMode.Statement (.ldxZpy b) := fun _ => rfl
theorem LengthByMode.unassignedB7 : LengthByMode.Statement (.unassignedB7) := rfl
theorem LengthByMode.clvImp : LengthByMode.Statement (.clvImp) := rfl
theorem LengthByMode.ldaAby : ∀ w, LengthByMode.Statement (.ldaAby w) := fun _ => rfl
theorem LengthByMode.tsxImp : LengthByMode.Statement (.tsxImp) := rfl
theorem LengthByMode.unassignedBB : LengthByMode.Statement (.unassignedBB) := rfl
theorem LengthByMode.ldyAbx : ∀ w, LengthByMode.Statement (.ldyAbx w) := fun _ => rfl
theorem LengthByMode.ldaAbx : ∀ w, LengthByMode.Statement (.ldaAbx w) := fun _ => rfl
theorem LengthByMode.ldxAby : ∀ w, LengthByMode.Statement (.ldxAby w) := fun _ => rfl
theorem LengthByMode.unassignedBF : LengthByMode.Statement (.unassignedBF) := rfl
theorem LengthByMode.cpyImm : ∀ w, LengthByMode.Statement (.cpyImm w) := fun _ => rfl
theorem LengthByMode.cmpIzx : ∀ b, LengthByMode.Statement (.cmpIzx b) := fun _ => rfl
theorem LengthByMode.unassignedC2 : LengthByMode.Statement (.unassignedC2) := rfl
theorem LengthByMode.unassignedC3 : LengthByMode.Statement (.unassignedC3) := rfl
theorem LengthByMode.cpyZp : ∀ b, LengthByMode.Statement (.cpyZp b) := fun _ => rfl
theorem LengthByMode.cmpZp : ∀ b, LengthByMode.Statement (.cmpZp b) := fun _ => rfl
theorem LengthByMode.decZp : ∀ b, LengthByMode.Statement (.decZp b) := fun _ => rfl
theorem LengthByMode.unassignedC7 : LengthByMode.Statement (.unassignedC7) := rfl
theorem LengthByMode.inyImp : LengthByMode.Statement (.inyImp) := rfl
theorem LengthByMode.cmpImm : ∀ w, LengthByMode.Statement (.cmpImm w) := fun _ => rfl
theorem LengthByMode.dexImp : LengthByMode.Statement (.dexImp) := rfl
theorem LengthByMode.unassignedCB : LengthByMode.Statement (.unassignedCB) := rfl
theorem LengthByMode.cpyAbs : ∀ w, LengthByMode.Statement (.cpyAbs w) := fun _ => rfl
theorem LengthByMode.cmpAbs : ∀ w, LengthByMode.Statement (.cmpAbs w) := fun _ => rfl
theorem LengthByMode.decAbs : ∀ w, LengthByMode.Statement (.decAbs w) := fun _ => rfl
theorem LengthByMode.unassignedCF : LengthByMode.Statement (.unassignedCF) := rfl
theorem LengthByMode.bneRel : ∀ d, LengthByMode.Statement (.bneRel d) := fun _ => rfl
theorem LengthByMode.cmpIzy : ∀ b, LengthByMode.Statement (.cmpIzy b) := fun _ => rfl
theorem LengthByMode.unassignedD2 : LengthByMode.Statement (.unassignedD2) := rfl
theorem LengthByMode.unassignedD3 : LengthByMode.Statement (.unassignedD3) := rfl
theorem LengthByMode.unassignedD4 : LengthByMode.Statement (.unassignedD4) := rfl
theorem LengthByMode.cmpZpx : ∀ b, LengthByMode.Statement (.cmpZpx b) := fun _ => rfl
theorem LengthByMode.decZpx : ∀ b, LengthByMode.Statement (.decZpx b) := fun _ => rfl
theorem LengthByMode.unassignedD7 : LengthByMode.Statement (.unassignedD7) := rfl
theorem LengthByMode.cldImp : LengthByMode.Statement (.cldImp) := rfl
theorem LengthByMode.cmpAby : ∀ w, LengthByMode.Statement (.cmpAby w) := fun _ => rfl
theorem LengthByMode.unassignedDA : LengthByMode.Statement (.unassignedDA) := rfl
theorem LengthByMode.unassignedDB : LengthByMode.Statement (.unassignedDB) := rfl
theorem LengthByMode.unassignedDC : LengthByMode.Statement (.unassignedDC) := rfl
theorem LengthByMode.cmpAbx : ∀ w, LengthByMode.Statement (.cmpAbx w) := fun _ => rfl
theorem LengthByMode.decAbx : ∀ w, LengthByMode.Statement (.decAbx w) := fun _ => rfl
theorem LengthByMode.unassignedDF : LengthByMode.Statement (.unassignedDF) := rfl
theorem LengthByMode.cpxImm : ∀ w, LengthByMode.Statement (.cpxImm w) := fun _ => rfl
theorem LengthByMode.sbcIzx : ∀ b, LengthByMode.Statement (.sbcIzx b) := fun _ => rfl
theorem LengthByMode.unassignedE2 : LengthByMode.Statement (.unassignedE2) := rfl
theorem LengthByMode.unassignedE3 : LengthByMode.Statement (.unassignedE3) := rfl
theorem LengthByMode.cpxZp : ∀ b, LengthByMode.Statement (.cpxZp b) := fun _ => rfl
theorem LengthByMode.sbcZp : ∀ b, LengthByMode.Statement (.sbcZp b) := fun _ => rfl
theorem LengthByMode.incZp : ∀ b, LengthByMode.Statement (.incZp b) := fun _ => rfl
theorem LengthByMode.unassignedE7 : LengthByMode.Statement (.unassignedE7) := rfl
theorem LengthByMode.inxImp : LengthByMode.Statement (.inxImp) := rfl
theorem LengthByMode.sbcImm : ∀ w, LengthByMode.Statement (.sbcImm w) := fun _ => rfl
theorem LengthByMode.nopImp : LengthByMode.Statement (.nopImp) := rfl
theorem LengthByMode.unassignedEB : LengthByMode.Statement (.unassignedEB) := rfl
theorem LengthByMode.cpxAbs : ∀ w, LengthByMode.Statement (.cpxAbs w) := fun _ => rfl
theorem LengthByMode.sbcAbs : ∀ w, LengthByMode.Statement (.sbcAbs w) := fun _ => rfl
theorem LengthByMode.incAbs : ∀ w, LengthByMode.Statement (.incAbs w) := fun _ => rfl
theorem LengthByMode.unassignedEF : LengthByMode.Statement (.unassignedEF) := rfl
theorem LengthByMode.beqRel : ∀ d, LengthByMode.Statement (.beqRel d) := fun _ => rfl
theorem LengthByMode.sbcIzy : ∀ b, LengthByMode.Statement (.sbcIzy b) := fun _ => rfl
theorem LengthByMode.unassignedF2 : LengthByMode.Statement (.unassignedF2) := rfl
theorem LengthByMode.unassignedF3 : LengthByMode.Statement (.unassignedF3) := rfl
theorem LengthByMode.unassignedF4 : LengthByMode.Statement (.unassignedF4) := rfl
theorem LengthByMode.sbcZpx : ∀ b, LengthByMode.Statement (.sbcZpx b) := fun _ => rfl
theorem LengthByMode.incZpx : ∀ b, LengthByMode.Statement (.incZpx b) := fun _ => rfl
theorem LengthByMode.unassignedF7 : LengthByMode.Statement (.unassignedF7) := rfl
theorem LengthByMode.sedImp : LengthByMode.Statement (.sedImp) := rfl
theorem LengthByMode.sbcAby : ∀ w, LengthByMode.Statement (.sbcAby w) := fun _ => rfl
theorem LengthByMode.unassignedFA : LengthByMode.Statement (.unassignedFA) := rfl
theorem LengthByMode.unassignedFB : LengthByMode.Statement (.unassignedFB) := rfl
theorem LengthByMode.unassignedFC : LengthByMode.Statement (.unassignedFC) := rfl
theorem LengthByMode.sbcAbx : ∀ w, LengthByMode.Statement (.sbcAbx w) := fun _ => rfl
theorem LengthByMode.incAbx : ∀ w, LengthByMode.Statement (.incAbx w) := fun _ => rfl
theorem LengthByMode.unassignedFF : LengthByMode.Statement (.unassignedFF) := rfl

end Sys2Proof.Laws
end

