-- ==== Sys2Proof/Laws/Run.lean ====
section
/-! SUPPORT. Whole steps one after the other, and `Run` as a loop over them: what one more step does, said once. -/

namespace Sys2Proof.Machine

@[simp] theorem afterSteps_zero (s : State) : afterSteps 0 s = some s := rfl

theorem afterSteps_next {s t : State} (k : Nat) (h : step s = .next t) : afterSteps (k + 1) s = afterSteps k t := by
  rw [afterSteps, h]

theorem afterSteps_fault {s : State} {f : Fault} (k : Nat) (h : step s = .fault f) : afterSteps (k + 1) s = none := by
  rw [afterSteps, h]

theorem afterSteps_refused {s : State} {f : Refusal} (k : Nat) (h : step s = .refused f) :
    afterSteps (k + 1) s = none := by
  rw [afterSteps, h]

/-- What holds in a state and survives every step holds after any number of steps. -/
theorem afterSteps_invariant {Inv : State → Prop} (hstep : ∀ s t, Inv s → step s = .next t → Inv t) {k : Nat}
    {s t : State} (hs : Inv s) (h : afterSteps k s = some t) : Inv t := by
  induction k generalizing s with
  | zero => cases h; exact hs
  | succ k ih =>
    rw [afterSteps] at h
    split at h
    · exact ih (hstep _ _ hs ‹_›) h
    · cases h
    · cases h

/-- A total carried over into the outcome of a run. -/
def carryTotal (k : Nat) (r : Option (Result (Nat × State))) : Option (Result (Nat × State)) :=
  match r with
  | some (.next (total, u)) => some (.next (k + total, u))
  | some (.fault f) => some (.fault f)
  | some (.refused f) => some (.refused f)
  | none => none

theorem carryTotal_carryTotal (j k : Nat) (r : Option (Result (Nat × State))) :
    carryTotal j (carryTotal k r) = carryTotal (j + k) r := by
  rcases r with _ | ⟨⟨total, u⟩ | f | f⟩ <;> simp [carryTotal, Nat.add_assoc]

/-- The loop of R97 from a total is the loop from 0 to what is still missing. -/
theorem runFrom_eq_carryTotal (fuel total n : Nat) (s : State) :
    runFrom fuel total n s = carryTotal total (runFrom fuel 0 (n - total) s) := by
  induction fuel generalizing total n s with
  | zero =>
    unfold runFrom
    by_cases h : n ≤ total
    · simp [h, Nat.sub_eq_zero_of_le h, carryTotal]
    · simp [h, show ¬ n - total ≤ 0 by omega, carryTotal]
  | succ fuel ih =>
    unfold runFrom
    by_cases h : n ≤ total
    · simp [h, Nat.sub_eq_zero_of_le h, carryTotal]
    · rw [if_neg h, if_neg (show ¬ n - total ≤ 0 by omega)]
      cases step s with
      | next t =>
        simp only
        rw [ih, ih (0 + (t.cyc - s.cyc).toNat), carryTotal_carryTotal]
        congr 2 <;> omega
      | fault f => rfl
      | refused f => rfl

/-- Below its goal the loop goes through the next step. -/
theorem runFrom_next {fuel total n : Nat} {s t : State} (hn : total < n) (h : step s = .next t) :
    runFrom (fuel + 1) total n s = runFrom fuel (total + (t.cyc - s.cyc).toNat) n t := by
  rw [runFrom, if_neg (by omega), h]

theorem runFrom_fault {fuel total n : Nat} {s : State} {f : Fault} (hn : total < n) (h : step s = .fault f) :
    runFrom (fuel + 1) total n s = some (.fault f) := by
  rw [runFrom, if_neg (by omega), h]

theorem runFrom_refused {fuel total n : Nat} {s : State} {f : Refusal} (hn : total < n) (h : step s = .refused f) :
    runFrom (fuel + 1) total n s = some (.refused f) := by
  rw [runFrom, if_neg (by omega), h]

end Sys2Proof.Machine
end

