-- ==== Sys2Proof/Tests/Slice0.lean ====
section
/-! SUPPORT. Tests and witnesses. Words are written out from the printed map of 30_encoding.md R76 and the operand
orders of R71; expected results of steps are those of spec 95_test_vectors.md, whose row each name gives. Each
`witness_` theorem shows states and operands that meet the hypotheses of the statement it is named after. -/

namespace Sys2Proof.Tests

open Sys2Proof Sys2Proof.Machine

/-! ## Helpers -/

/-- The common start state of spec 95_test_vectors.md with some bytes of memory. -/
def boot (writes : List (Word × Byte)) : State :=
  ({ State.init with pc := 0x0200, policy := .throwException } : State).pokes writes

/-- The same, with some registers changed. -/
def bootWith (change : State → State) (writes : List (Word × Byte)) : State := change (boot writes)

/-- The outcome is a next state, and it passes the check. -/
def nextIs (r : Result State) (check : State → Bool) : Bool :=
  match r with
  | .next t => check t
  | .fault _ => false
  | .refused _ => false

/-- The outcome is `MemoryFault` at the address, and what is left passes the check. -/
def memoryFaultIs (r : Result State) (addr : Word) (check : State → Bool) : Bool :=
  match r with
  | .next _ => false
  | .fault (.memoryFault at_ left) => decide (at_ = addr) && left.faultMark && check left
  | .fault (.invalidOpcode _ _ _) => false
  | .refused _ => false

/-- The outcome is `InvalidOpcode` at the address with the byte, and what is left passes the check. -/
def invalidOpcodeIs (r : Result State) (addr : Word) (opcode : Byte) (check : State → Bool) : Bool :=
  match r with
  | .next _ => false
  | .fault (.memoryFault _ _) => false
  | .fault (.invalidOpcode at_ byte left) =>
    decide (at_ = addr) && decide (byte = opcode) && left.faultMark && check left
  | .refused _ => false

/-- One address of a kind of its own. -/
def oneByte (kind : RegionKind) (addr : Nat) (s : State) : State :=
  { s with regions := { base := addr, size := 1, kind := kind } :: s.regions }

/-- Every word decodes to its instruction, with nothing left over. -/
def decodesAll (rows : List (List Byte × Instr)) : Bool :=
  rows.all fun p => decide (decode p.1 = .ok p.2 [])

/-! ## Ill-formed pairs are refused, one for each check of WellFormed -/

theorem test_illformed_ldx_has_no_zpx : Form.wellFormed (.read .ldx (.mem (.zpx 0x10))) = false := by decide
theorem test_illformed_lda_has_no_zpy : Form.wellFormed (.read .lda (.mem (.zpy 0x10))) = false := by decide
theorem test_illformed_bit_has_no_imm : Form.wellFormed (.read .bit (.imm 0x10)) = false := by decide
theorem test_illformed_lda_has_no_ind : Form.wellFormed (.read .lda (.mem (.ind 0x1234))) = false := by decide
theorem test_illformed_stx_has_no_abx : Form.wellFormed (.store .stx (.abx 0x1234)) = false := by decide
theorem test_illformed_sta_has_no_ind : Form.wellFormed (.store .sta (.ind 0x1234)) = false := by decide
theorem test_illformed_inc_has_no_aby : Form.wellFormed (.modify .inc (.aby 0x1234)) = false := by decide
theorem test_illformed_inc_has_no_acc : Form.wellFormed (.modifyAcc .inc) = false := by decide
theorem test_illformed_dec_has_no_acc : Form.wellFormed (.modifyAcc .dec) = false := by decide
theorem test_illformed_jmp_has_no_zp : Form.wellFormed (.jump (.zp 0x10)) = false := by decide
theorem test_illformed_jmp_has_no_abx : Form.wellFormed (.jump (.abx 0x1234)) = false := by decide
theorem test_illformed_lda_opcode_is_assigned : Form.wellFormed (.unassigned 0xA9) = false := by decide

/-- The neighbours that are cells of the table are well-formed. -/
theorem test_wellformed_neighbours :
    (Form.wellFormed (.read .ldx (.mem (.zpy 0x10))) && Form.wellFormed (.store .stx (.abs 0x1234)) &&
      Form.wellFormed (.modify .inc (.abx 0x1234)) && Form.wellFormed (.modifyAcc .ror) &&
      Form.wellFormed (.jump (.ind 0x1234)) && Form.wellFormed (.unassigned 0xFF)) = true := by decide

/-! ## Every constructor by a word written out from R71 and R76 -/

theorem test_decode_row0 : decodesAll
    [([0x00], .brkImp), ([0x01, 0x9C], .oraIzx 0x9C), ([0x02], .unassigned02), ([0x03], .unassigned03),
     ([0x04], .unassigned04), ([0x05, 0x9C], .oraZp 0x9C), ([0x06, 0x9C], .aslZp 0x9C),
     ([0x07], .unassigned07), ([0x08], .phpImp), ([0x09, 0x9C], .oraImm 0x9C), ([0x0A], .aslAcc),
     ([0x0B], .unassigned0B), ([0x0C], .unassigned0C), ([0x0D, 0x34, 0xA2], .oraAbs 0xA234),
     ([0x0E, 0x34, 0xA2], .aslAbs 0xA234), ([0x0F], .unassigned0F)] = true := by decide

theorem test_decode_row1 : decodesAll
    [([0x10, 0x9C], .bplRel 0x9C), ([0x11, 0x9C], .oraIzy 0x9C), ([0x12], .unassigned12),
     ([0x13], .unassigned13), ([0x14], .unassigned14), ([0x15, 0x9C], .oraZpx 0x9C),
     ([0x16, 0x9C], .aslZpx 0x9C), ([0x17], .unassigned17), ([0x18], .clcImp),
     ([0x19, 0x34, 0xA2], .oraAby 0xA234), ([0x1A], .unassigned1A), ([0x1B], .unassigned1B),
     ([0x1C], .unassigned1C), ([0x1D, 0x34, 0xA2], .oraAbx 0xA234), ([0x1E, 0x34, 0xA2], .aslAbx 0xA234),
     ([0x1F], .unassigned1F)] = true := by decide

theorem test_decode_row2 : decodesAll
    [([0x20, 0x34, 0xA2], .jsrAbs 0xA234), ([0x21, 0x9C], .andIzx 0x9C), ([0x22], .unassigned22),
     ([0x23], .unassigned23), ([0x24, 0x9C], .bitZp 0x9C), ([0x25, 0x9C], .andZp 0x9C),
     ([0x26, 0x9C], .rolZp 0x9C), ([0x27], .unassigned27), ([0x28], .plpImp), ([0x29, 0x9C], .andImm 0x9C),
     ([0x2A], .rolAcc), ([0x2B], .unassigned2B), ([0x2C, 0x34, 0xA2], .bitAbs 0xA234),
     ([0x2D, 0x34, 0xA2], .andAbs 0xA234), ([0x2E, 0x34, 0xA2], .rolAbs 0xA234),
     ([0x2F], .unassigned2F)] = true := by decide

theorem test_decode_row3 : decodesAll
    [([0x30, 0x9C], .bmiRel 0x9C), ([0x31, 0x9C], .andIzy 0x9C), ([0x32], .unassigned32),
     ([0x33], .unassigned33), ([0x34], .unassigned34), ([0x35, 0x9C], .andZpx 0x9C),
     ([0x36, 0x9C], .rolZpx 0x9C), ([0x37], .unassigned37), ([0x38], .secImp),
     ([0x39, 0x34, 0xA2], .andAby 0xA234), ([0x3A], .unassigned3A), ([0x3B], .unassigned3B),
     ([0x3C], .unassigned3C), ([0x3D, 0x34, 0xA2], .andAbx 0xA234), ([0x3E, 0x34, 0xA2], .rolAbx 0xA234),
     ([0x3F], .unassigned3F)] = true := by decide

theorem test_decode_row4 : decodesAll
    [([0x40], .rtiImp), ([0x41, 0x9C], .eorIzx 0x9C), ([0x42], .unassigned42), ([0x43], .unassigned43),
     ([0x44], .unassigned44), ([0x45, 0x9C], .eorZp 0x9C), ([0x46, 0x9C], .lsrZp 0x9C),
     ([0x47], .unassigned47), ([0x48], .phaImp), ([0x49, 0x9C], .eorImm 0x9C), ([0x4A], .lsrAcc),
     ([0x4B], .unassigned4B), ([0x4C, 0x34, 0xA2], .jmpAbs 0xA234), ([0x4D, 0x34, 0xA2], .eorAbs 0xA234),
     ([0x4E, 0x34, 0xA2], .lsrAbs 0xA234), ([0x4F], .unassigned4F)] = true := by decide

theorem test_decode_row5 : decodesAll
    [([0x50, 0x9C], .bvcRel 0x9C), ([0x51, 0x9C], .eorIzy 0x9C), ([0x52], .unassigned52),
     ([0x53], .unassigned53), ([0x54], .unassigned54), ([0x55, 0x9C], .eorZpx 0x9C),
     ([0x56, 0x9C], .lsrZpx 0x9C), ([0x57], .unassigned57), ([0x58], .cliImp),
     ([0x59, 0x34, 0xA2], .eorAby 0xA234), ([0x5A], .unassigned5A), ([0x5B], .unassigned5B),
     ([0x5C], .unassigned5C), ([0x5D, 0x34, 0xA2], .eorAbx 0xA234), ([0x5E, 0x34, 0xA2], .lsrAbx 0xA234),
     ([0x5F], .unassigned5F)] = true := by decide

theorem test_decode_row6 : decodesAll
    [([0x60], .rtsImp), ([0x61, 0x9C], .adcIzx 0x9C), ([0x62], .unassigned62), ([0x63], .unassigned63),
     ([0x64], .unassigned64), ([0x65, 0x9C], .adcZp 0x9C), ([0x66, 0x9C], .rorZp 0x9C),
     ([0x67], .unassigned67), ([0x68], .plaImp), ([0x69, 0x9C], .adcImm 0x9C), ([0x6A], .rorAcc),
     ([0x6B], .unassigned6B), ([0x6C, 0x34, 0xA2], .jmpInd 0xA234), ([0x6D, 0x34, 0xA2], .adcAbs 0xA234),
     ([0x6E, 0x34, 0xA2], .rorAbs 0xA234), ([0x6F], .unassigned6F)] = true := by decide

theorem test_decode_row7 : decodesAll
    [([0x70, 0x9C], .bvsRel 0x9C), ([0x71, 0x9C], .adcIzy 0x9C), ([0x72], .unassigned72),
     ([0x73], .unassigned73), ([0x74], .unassigned74), ([0x75, 0x9C], .adcZpx 0x9C),
     ([0x76, 0x9C], .rorZpx 0x9C), ([0x77], .unassigned77), ([0x78], .seiImp),
     ([0x79, 0x34, 0xA2], .adcAby 0xA234), ([0x7A], .unassigned7A), ([0x7B], .unassigned7B),
     ([0x7C], .unassigned7C), ([0x7D, 0x34, 0xA2], .adcAbx 0xA234), ([0x7E, 0x34, 0xA2], .rorAbx 0xA234),
     ([0x7F], .unassigned7F)] = true := by decide

theorem test_decode_row8 : decodesAll
    [([0x80], .unassigned80), ([0x81, 0x9C], .staIzx 0x9C), ([0x82], .unassigned82), ([0x83], .unassigned83),
     ([0x84, 0x9C], .styZp 0x9C), ([0x85, 0x9C], .staZp 0x9C), ([0x86, 0x9C], .stxZp 0x9C),
     ([0x87], .unassigned87), ([0x88], .deyImp), ([0x89], .unassigned89), ([0x8A], .txaImp),
     ([0x8B], .unassigned8B), ([0x8C, 0x34, 0xA2], .styAbs 0xA234), ([0x8D, 0x34, 0xA2], .staAbs 0xA234),
     ([0x8E, 0x34, 0xA2], .stxAbs 0xA234), ([0x8F], .unassigned8F)] = true := by decide

theorem test_decode_row9 : decodesAll
    [([0x90, 0x9C], .bccRel 0x9C), ([0x91, 0x9C], .staIzy 0x9C), ([0x92], .unassigned92),
     ([0x93], .unassigned93), ([0x94, 0x9C], .styZpx 0x9C), ([0x95, 0x9C], .staZpx 0x9C),
     ([0x96, 0x9C], .stxZpy 0x9C), ([0x97], .unassigned97), ([0x98], .tyaImp),
     ([0x99, 0x34, 0xA2], .staAby 0xA234), ([0x9A], .txsImp), ([0x9B], .unassigned9B), ([0x9C], .unassigned9C),
     ([0x9D, 0x34, 0xA2], .staAbx 0xA234), ([0x9E], .unassigned9E),
     ([0x9F], .unassigned9F)] = true := by decide

theorem test_decode_rowA : decodesAll
    [([0xA0, 0x9C], .ldyImm 0x9C), ([0xA1, 0x9C], .ldaIzx 0x9C), ([0xA2, 0x9C], .ldxImm 0x9C),
     ([0xA3], .unassignedA3), ([0xA4, 0x9C], .ldyZp 0x9C), ([0xA5, 0x9C], .ldaZp 0x9C),
     ([0xA6, 0x9C], .ldxZp 0x9C), ([0xA7], .unassignedA7), ([0xA8], .tayImp), ([0xA9, 0x9C], .ldaImm 0x9C),
     ([0xAA], .taxImp), ([0xAB], .unassignedAB), ([0xAC, 0x34, 0xA2], .ldyAbs 0xA234),
     ([0xAD, 0x34, 0xA2], .ldaAbs 0xA234), ([0xAE, 0x34, 0xA2], .ldxAbs 0xA234),
     ([0xAF], .unassignedAF)] = true := by decide

theorem test_decode_rowB : decodesAll
    [([0xB0, 0x9C], .bcsRel 0x9C), ([0xB1, 0x9C], .ldaIzy 0x9C), ([0xB2], .unassignedB2),
     ([0xB3], .unassignedB3), ([0xB4, 0x9C], .ldyZpx 0x9C), ([0xB5, 0x9C], .ldaZpx 0x9C),
     ([0xB6, 0x9C], .ldxZpy 0x9C), ([0xB7], .unassignedB7), ([0xB8], .clvImp),
     ([0xB9, 0x34, 0xA2], .ldaAby 0xA234), ([0xBA], .tsxImp), ([0xBB], .unassignedBB),
     ([0xBC, 0x34, 0xA2], .ldyAbx 0xA234), ([0xBD, 0x34, 0xA2], .ldaAbx 0xA234),
     ([0xBE, 0x34, 0xA2], .ldxAby 0xA234), ([0xBF], .unassignedBF)] = true := by decide

theorem test_decode_rowC : decodesAll
    [([0xC0, 0x9C], .cpyImm 0x9C), ([0xC1, 0x9C], .cmpIzx 0x9C), ([0xC2], .unassignedC2),
     ([0xC3], .unassignedC3), ([0xC4, 0x9C], .cpyZp 0x9C), ([0xC5, 0x9C], .cmpZp 0x9C),
     ([0xC6, 0x9C], .decZp 0x9C), ([0xC7], .unassignedC7), ([0xC8], .inyImp), ([0xC9, 0x9C], .cmpImm 0x9C),
     ([0xCA], .dexImp), ([0xCB], .unassignedCB), ([0xCC, 0x34, 0xA2], .cpyAbs 0xA234),
     ([0xCD, 0x34, 0xA2], .cmpAbs 0xA234), ([0xCE, 0x34, 0xA2], .decAbs 0xA234),
     ([0xCF], .unassignedCF)] = true := by decide

theorem test_decode_rowD : decodesAll
    [([0xD0, 0x9C], .bneRel 0x9C), ([0xD1, 0x9C], .cmpIzy 0x9C), ([0xD2], .unassignedD2),
     ([0xD3], .unassignedD3), ([0xD4], .unassignedD4), ([0xD5, 0x9C], .cmpZpx 0x9C),
     ([0xD6, 0x9C], .decZpx 0x9C), ([0xD7], .unassignedD7), ([0xD8], .cldImp),
     ([0xD9, 0x34, 0xA2], .cmpAby 0xA234), ([0xDA], .unassignedDA), ([0xDB], .unassignedDB),
     ([0xDC], .unassignedDC), ([0xDD, 0x34, 0xA2], .cmpAbx 0xA234), ([0xDE, 0x34, 0xA2], .decAbx 0xA234),
     ([0xDF], .unassignedDF)] = true := by decide

theorem test_decode_rowE : decodesAll
    [([0xE0, 0x9C], .cpxImm 0x9C), ([0xE1, 0x9C], .sbcIzx 0x9C), ([0xE2], .unassignedE2),
     ([0xE3], .unassignedE3), ([0xE4, 0x9C], .cpxZp 0x9C), ([0xE5, 0x9C], .sbcZp 0x9C),
     ([0xE6, 0x9C], .incZp 0x9C), ([0xE7], .unassignedE7), ([0xE8], .inxImp), ([0xE9, 0x9C], .sbcImm 0x9C),
     ([0xEA], .nopImp), ([0xEB], .unassignedEB), ([0xEC, 0x34, 0xA2], .cpxAbs 0xA234),
     ([0xED, 0x34, 0xA2], .sbcAbs 0xA234), ([0xEE, 0x34, 0xA2], .incAbs 0xA234),
     ([0xEF], .unassignedEF)] = true := by decide

theorem test_decode_rowF : decodesAll
    [([0xF0, 0x9C], .beqRel 0x9C), ([0xF1, 0x9C], .sbcIzy 0x9C), ([0xF2], .unassignedF2),
     ([0xF3], .unassignedF3), ([0xF4], .unassignedF4), ([0xF5, 0x9C], .sbcZpx 0x9C),
     ([0xF6, 0x9C], .incZpx 0x9C), ([0xF7], .unassignedF7), ([0xF8], .sedImp),
     ([0xF9, 0x34, 0xA2], .sbcAby 0xA234), ([0xFA], .unassignedFA), ([0xFB], .unassignedFB),
     ([0xFC], .unassignedFC), ([0xFD, 0x34, 0xA2], .sbcAbx 0xA234), ([0xFE, 0x34, 0xA2], .incAbx 0xA234),
     ([0xFF], .unassignedFF)] = true := by decide

/-- A word cut short is refused by name, and so is no word at all. -/
theorem test_decode_short :
    decode [] = .noOpcode ∧ decode [0xA9] = .missingOperand 0xA9 ∧ decode [0xAD, 0x34] = .missingOperand 0xAD := by
  decide

/-- The host's numbering: the first byte in bits 0 to 7, what is above `nbits` reads 0. -/
theorem test_decodeTableWord :
    decodeTableWord 24 0xA234AD = some (.ldaAbs 0xA234) ∧ decodeTableWord 8 0xA9 = some (.ldaImm 0x00) ∧
    decodeTableWord 8 0xFFFF = some .unassignedFF := by decide

/-- An instruction placed by `withFetchWord` is what the first step after reset runs. -/
theorem test_withFetchWord :
    nextIs (step (State.reset.withFetchWord 16 0x80A9)) (fun t => t.a == 0x80 && t.n && t.pc == 0x0002) = true ∧
    nextIs (step ((oneByte .absent 0x0000 { State.reset with nmiPending := true, resetLine := true }).withFetchWord
      16 0x80A9)) (fun t => t.a == 0x80 && t.pc == 0x0002) = true := by decide

/-! ## One step each, from 95_test_vectors.md -/

theorem test_lda_v8 : (nextIs (step (bootWith (fun s => { s with x := 0x0F })
    [(0x0200, 0xA1), (0x0201, 0xF0), (0x0000, 0x12), (0x00FF, 0x34), (0x0100, 0x77),
     (0x1234, 0x5A), (0x7734, 0xEE)]))
    fun t => t.a == 0x5A && t.pc == 0x0202 && t.cyc == 6) = true := by decide

theorem test_ldx_v12 : (nextIs (step (bootWith (fun s => { s with y := 0x20 })
    [(0x0200, 0xB6), (0x0201, 0xF0), (0x0010, 0x07)]))
    fun t => t.x == 0x07 && t.pc == 0x0202 && t.cyc == 4) = true := by decide

theorem test_ldy_v15 : (nextIs (step (bootWith (fun s => { s with x := 0x01 })
    [(0x0200, 0xB4), (0x0201, 0x10), (0x0011, 0x90)]))
    fun t => t.y == 0x90 && t.pc == 0x0202 && t.n && t.cyc == 4) = true := by decide

theorem test_sta_v18 : (nextIs (step (bootWith (fun s => { s with a := 0x5A, x := 0x01 })
    [(0x0200, 0x9D), (0x0201, 0xFF), (0x0202, 0x30)]))
    fun t => t.peek 0x3100 == 0x5A && t.pc == 0x0203 && t.cyc == 5) = true := by decide

theorem test_sta_v22 : (nextIs (step (bootWith (fun s => { s with a := 0x5A, y := 0x20 })
    [(0x0200, 0x91), (0x0201, 0x86), (0x0086, 0xF0), (0x0087, 0x12)]))
    fun t => t.peek 0x1310 == 0x5A && t.pc == 0x0202 && t.cyc == 6) = true := by decide

theorem test_stx_v23 : (nextIs (step (bootWith (fun s => { s with x := 0x07, y := 0x20 })
    [(0x0200, 0x96), (0x0201, 0xF0)]))
    fun t => t.peek 0x0010 == 0x07 && t.pc == 0x0202 && t.cyc == 4) = true := by decide

theorem test_sty_v24 : (nextIs (step (bootWith (fun s => { s with y := 0x80 })
    [(0x0200, 0x8C), (0x0201, 0x34), (0x0202, 0x12)]))
    fun t => t.peek 0x1234 == 0x80 && t.pc == 0x0203 && t.cyc == 4) = true := by decide

theorem test_tax_v25 : (nextIs (step (bootWith (fun s => { s with a := 0x00, x := 0x55 }) [(0x0200, 0xAA)]))
    fun t => t.x == 0x00 && t.pc == 0x0201 && t.z && t.cyc == 2) = true := by decide

theorem test_tay_v26 : (nextIs (step (bootWith (fun s => { s with a := 0x90 }) [(0x0200, 0xA8)]))
    fun t => t.y == 0x90 && t.pc == 0x0201 && t.n && t.cyc == 2) = true := by decide

theorem test_tsx_v27 : (nextIs (step (bootWith (fun s => { s with sp := 0xFF }) [(0x0200, 0xBA)]))
    fun t => t.x == 0xFF && t.pc == 0x0201 && t.n && t.cyc == 2) = true := by decide

theorem test_txa_v28 : (nextIs (step (bootWith (fun s => { s with
      x := 0x7F, a := 0x80, n := true })
    [(0x0200, 0x8A)]))
    fun t => t.a == 0x7F && t.pc == 0x0201 && !t.n && t.cyc == 2) = true := by decide

theorem test_txs_v29 : (nextIs (step (bootWith (fun s => { s with x := 0x00, sp := 0xFF })
    [(0x0200, 0x9A)]))
    fun t => t.sp == 0x00 && t.pc == 0x0201 && !t.z && !t.n && t.cyc == 2) = true := by decide

theorem test_tya_v31 : (nextIs (step (bootWith (fun s => { s with y := 0x00, a := 0x55 }) [(0x0200, 0x98)]))
    fun t => t.a == 0x00 && t.pc == 0x0201 && t.z && t.cyc == 2) = true := by decide

theorem test_adc_v34 : (nextIs (step (bootWith (fun s => { s with a := 0x7F })
    [(0x0200, 0x69), (0x0201, 0x01)]))
    fun t => t.a == 0x80 && t.pc == 0x0202 && t.n && t.v && t.cyc == 2) = true := by decide

theorem test_adc_v39 : (nextIs (step (bootWith (fun s => { s with a := 0x99, d := true })
    [(0x0200, 0x69), (0x0201, 0x01)]))
    fun t => t.a == 0x00 && t.pc == 0x0202 && t.n && t.c && t.cyc == 2) = true := by decide

theorem test_sbc_v46 : (nextIs (step (bootWith (fun s => { s with a := 0x05, c := false })
    [(0x0200, 0xE9), (0x0201, 0x03)]))
    fun t => t.a == 0x01 && t.pc == 0x0202 && t.c && t.cyc == 2) = true := by decide

theorem test_sbc_v50 : (nextIs (step (bootWith (fun s => { s with
      a := 0x00, d := true, c := true })
    [(0x0200, 0xE9), (0x0201, 0x01)]))
    fun t => t.a == 0x99 && t.pc == 0x0202 && t.n && !t.c && t.cyc == 2) = true := by decide

theorem test_cmp_v54 : (nextIs (step (bootWith (fun s => { s with a := 0x40, c := true })
    [(0x0200, 0xC9), (0x0201, 0x41)]))
    fun t => t.pc == 0x0202 && t.n && !t.c && t.cyc == 2) = true := by decide

theorem test_cmp_v56 : (nextIs (step (bootWith (fun s => { s with a := 0x00, v := true })
    [(0x0200, 0xC9), (0x0201, 0xFF)]))
    fun t => t.pc == 0x0202 && t.v && t.cyc == 2) = true := by decide

theorem test_cpx_v58 : (nextIs (step (bootWith (fun s => { s with x := 0x10 })
    [(0x0200, 0xE4), (0x0201, 0x10), (0x0010, 0x10)]))
    fun t => t.pc == 0x0202 && t.z && t.c && t.cyc == 3) = true := by decide

theorem test_cpy_v59 : (nextIs (step (bootWith (fun s => { s with y := 0x7F })
    [(0x0200, 0xC0), (0x0201, 0x80)]))
    fun t => t.pc == 0x0202 && t.n && t.cyc == 2) = true := by decide

theorem test_inc_v61 : (nextIs (step (bootWith (fun s => { s with c := true })
    [(0x0200, 0xE6), (0x0201, 0x10), (0x0010, 0x7F)]))
    fun t => t.peek 0x0010 == 0x80 && t.pc == 0x0202 && t.n && t.c && t.cyc == 5) = true := by decide

theorem test_inc_v62 : (nextIs (step (bootWith (fun s => { s with x := 0x01 })
    [(0x0200, 0xFE), (0x0201, 0xFF), (0x0202, 0x30), (0x3100, 0x01)]))
    fun t => t.peek 0x3100 == 0x02 && t.pc == 0x0203 && t.cyc == 7) = true := by decide

theorem test_dec_v64 : (nextIs (step (boot [(0x0200, 0xC6), (0x0201, 0x10), (0x0010, 0x00)]))
    fun t => t.peek 0x0010 == 0xFF && t.pc == 0x0202 && t.n && t.cyc == 5) = true := by decide

theorem test_inx_v66 : (nextIs (step (bootWith (fun s => { s with x := 0xFF }) [(0x0200, 0xE8)]))
    fun t => t.x == 0x00 && t.pc == 0x0201 && t.z && t.cyc == 2) = true := by decide

theorem test_iny_v67 : (nextIs (step (bootWith (fun s => { s with y := 0x7F }) [(0x0200, 0xC8)]))
    fun t => t.y == 0x80 && t.pc == 0x0201 && t.n && t.cyc == 2) = true := by decide

theorem test_dex_v68 : (nextIs (step (bootWith (fun s => { s with x := 0x00 }) [(0x0200, 0xCA)]))
    fun t => t.x == 0xFF && t.pc == 0x0201 && t.n && t.cyc == 2) = true := by decide

theorem test_dey_v69 : (nextIs (step (bootWith (fun s => { s with y := 0x01 }) [(0x0200, 0x88)]))
    fun t => t.y == 0x00 && t.pc == 0x0201 && t.z && t.cyc == 2) = true := by decide

theorem test_and_v71 : (nextIs (step (bootWith (fun s => { s with a := 0xF0 })
    [(0x0200, 0x29), (0x0201, 0x0F)]))
    fun t => t.a == 0x00 && t.pc == 0x0202 && t.z && t.cyc == 2) = true := by decide

theorem test_ora_v72 : (nextIs (step (bootWith (fun s => { s with a := 0x01 })
    [(0x0200, 0x09), (0x0201, 0x80)]))
    fun t => t.a == 0x81 && t.pc == 0x0202 && t.n && t.cyc == 2) = true := by decide

theorem test_eor_v74 : (nextIs (step (bootWith (fun s => { s with a := 0xAA })
    [(0x0200, 0x49), (0x0201, 0xFF)]))
    fun t => t.a == 0x55 && t.pc == 0x0202 && t.cyc == 2) = true := by decide

theorem test_bit_v76 : (nextIs (step (bootWith (fun s => { s with a := 0x01 })
    [(0x0200, 0x24), (0x0201, 0x10), (0x0010, 0x41)]))
    fun t => t.pc == 0x0202 && t.v && t.cyc == 3) = true := by decide

theorem test_bit_v78 : (nextIs (step (bootWith (fun s => { s with
      a := 0xFF, n := true, v := true })
    [(0x0200, 0x24), (0x0201, 0x10), (0x0010, 0x01)]))
    fun t => t.pc == 0x0202 && !t.n && !t.v && t.cyc == 3) = true := by decide

theorem test_asl_v80 : (nextIs (step (bootWith (fun s => { s with a := 0x80 }) [(0x0200, 0x0A)]))
    fun t => t.a == 0x00 && t.pc == 0x0201 && t.z && t.c && t.cyc == 2) = true := by decide

theorem test_lsr_v82 : (nextIs (step (bootWith (fun s => { s with a := 0x01, n := true }) [(0x0200, 0x4A)]))
    fun t => t.a == 0x00 && t.pc == 0x0201 && !t.n && t.z && t.c && t.cyc == 2) = true := by decide

theorem test_rol_v84 : (nextIs (step (bootWith (fun s => { s with a := 0x40, c := true }) [(0x0200, 0x2A)]))
    fun t => t.a == 0x81 && t.pc == 0x0201 && t.n && !t.c && t.cyc == 2) = true := by decide

theorem test_rol_v86 : (nextIs (step (bootWith (fun s => { s with x := 0x01, c := true })
    [(0x0200, 0x36), (0x0201, 0x10), (0x0011, 0x00)]))
    fun t => t.peek 0x0011 == 0x01 && t.pc == 0x0202 && !t.c && t.cyc == 6) = true := by decide

theorem test_ror_v87 : (nextIs (step (bootWith (fun s => { s with a := 0x02, c := true }) [(0x0200, 0x6A)]))
    fun t => t.a == 0x81 && t.pc == 0x0201 && t.n && !t.c && t.cyc == 2) = true := by decide

theorem test_ror_v89 : (nextIs (step (bootWith (fun s => { s with x := 0x20, c := true })
    [(0x0200, 0x7E), (0x0201, 0xF0), (0x0202, 0x12), (0x1310, 0x01)]))
    fun t => t.peek 0x1310 == 0x80 && t.pc == 0x0203 && t.n && t.cyc == 7) = true := by decide

theorem test_pha_v91 : (nextIs (step (bootWith (fun s => { s with a := 0x42, sp := 0x00 })
    [(0x0200, 0x48)]))
    fun t => t.peek 0x0100 == 0x42 && t.sp == 0xFF && t.pc == 0x0201 && t.cyc == 3) = true := by decide

theorem test_php_v93 : (nextIs (step (bootWith (fun s => { s with b := true, d := true }) [(0x0200, 0x08)]))
    fun t => t.peek 0x01FF == 0x38 && t.sp == 0xFE && t.pc == 0x0201 && t.cyc == 3) = true := by decide

theorem test_pla_v95 : (nextIs (step (bootWith (fun s => { s with sp := 0xFF })
    [(0x0200, 0x68), (0x0100, 0x80)]))
    fun t => t.a == 0x80 && t.sp == 0x00 && t.pc == 0x0201 && t.n && t.cyc == 4) = true := by decide

theorem test_plp_v96 : (nextIs (step (bootWith (fun s => { s with sp := 0xFE })
    [(0x0200, 0x28), (0x01FF, 0xC3)]))
    fun t => t.sp == 0xFF && t.pc == 0x0201 && t.n && t.v && t.z && t.c && t.cyc == 4) = true := by decide

theorem test_plp_v97 : (nextIs (step (bootWith (fun s => { s with
      sp := 0xFE, n := true, v := true, b := true, d := true, i := true, z := true, c := true })
    [(0x0200, 0x28), (0x01FF, 0x00)]))
    fun t => t.sp == 0xFF && t.pc == 0x0201 && !t.n && !t.v && !t.b && !t.d && !t.i && !t.z &&
      !t.c && t.cyc == 4) = true := by decide

theorem test_clc_v99 : (nextIs (step (bootWith (fun s => { s with c := true }) [(0x0200, 0x18)]))
    fun t => t.pc == 0x0201 && !t.c && t.cyc == 2) = true := by decide

theorem test_sec_v100 : (nextIs (step (boot [(0x0200, 0x38)]))
    fun t => t.pc == 0x0201 && t.c && t.cyc == 2) = true := by decide

theorem test_cli_v101 : (nextIs (step (bootWith (fun s => { s with i := true }) [(0x0200, 0x58)]))
    fun t => t.pc == 0x0201 && !t.i && t.cyc == 2) = true := by decide

theorem test_sei_v102 : (nextIs (step (boot [(0x0200, 0x78)]))
    fun t => t.pc == 0x0201 && t.i && t.cyc == 2) = true := by decide

theorem test_cld_v103 : (nextIs (step (bootWith (fun s => { s with d := true }) [(0x0200, 0xD8)]))
    fun t => t.pc == 0x0201 && !t.d && t.cyc == 2) = true := by decide

theorem test_sed_v104 : (nextIs (step (boot [(0x0200, 0xF8)]))
    fun t => t.pc == 0x0201 && t.d && t.cyc == 2) = true := by decide

theorem test_clv_v105 : (nextIs (step (bootWith (fun s => { s with v := true }) [(0x0200, 0xB8)]))
    fun t => t.pc == 0x0201 && !t.v && t.cyc == 2) = true := by decide

theorem test_nop_v106 : (nextIs (step (boot [(0x0200, 0xEA)]))
    fun t => t.pc == 0x0201 && t.cyc == 2) = true := by decide

theorem test_bcc_v107 : (nextIs (step (bootWith (fun s => { s with c := false })
    [(0x0200, 0x90), (0x0201, 0x10)]))
    fun t => t.pc == 0x0212 && t.cyc == 3) = true := by decide

theorem test_bcc_v125 : (nextIs (step (bootWith (fun s => { s with c := false, pc := 0x02FD })
    [(0x02FD, 0x90), (0x02FE, 0x01)]))
    fun t => t.pc == 0x0300 && t.cyc == 4) = true := by decide

theorem test_bcs_v109 : (nextIs (step (bootWith (fun s => { s with c := true })
    [(0x0200, 0xB0), (0x0201, 0x10)]))
    fun t => t.pc == 0x0212 && t.cyc == 3) = true := by decide

theorem test_beq_v129 : (nextIs (step (bootWith (fun s => { s with z := true, pc := 0x0000 })
    [(0x0000, 0xF0), (0x0001, 0x80)]))
    fun t => t.pc == 0xFF82 && t.cyc == 4) = true := by decide

theorem test_bne_v123 : (nextIs (step (bootWith (fun s => { s with z := false })
    [(0x0200, 0xD0), (0x0201, 0xFE)]))
    fun t => t.cyc == 3) = true := by decide

theorem test_bmi_v127 : (nextIs (step (bootWith (fun s => { s with n := true, pc := 0x0300 })
    [(0x0300, 0x30), (0x0301, 0xFB)]))
    fun t => t.pc == 0x02FD && t.cyc == 4) = true := by decide

theorem test_bpl_v126 : (nextIs (step (bootWith (fun s => { s with n := false, pc := 0x02FE })
    [(0x02FE, 0x10), (0x02FF, 0x10)]))
    fun t => t.pc == 0x0310 && t.cyc == 3) = true := by decide

theorem test_bvc_v119 : (nextIs (step (bootWith (fun s => { s with v := false })
    [(0x0200, 0x50), (0x0201, 0x10)]))
    fun t => t.pc == 0x0212 && t.cyc == 3) = true := by decide

theorem test_bvs_v122 : (nextIs (step (bootWith (fun s => { s with v := false })
    [(0x0200, 0x70), (0x0201, 0x10)]))
    fun t => t.pc == 0x0202 && t.cyc == 2) = true := by decide

theorem test_jmp_v130 : (nextIs (step (boot [(0x0200, 0x4C), (0x0201, 0x34), (0x0202, 0x12)]))
    fun t => t.pc == 0x1234 && t.cyc == 3) = true := by decide

theorem test_jmp_v132 : (nextIs (step (boot
    [(0x0200, 0x6C), (0x0201, 0xFF), (0x0202, 0x30), (0x3000, 0x12), (0x30FF, 0x34), (0x3100, 0x56)]))
    fun t => t.pc == 0x1234 && t.cyc == 5) = true := by decide

theorem test_jsr_v136 : (nextIs (step (bootWith (fun s => { s with pc := 0xFFFD })
    [(0xFFFD, 0x20), (0xFFFE, 0x34), (0xFFFF, 0x12)]))
    fun t => t.peek 0x01FE == 0xFF && t.peek 0x01FF == 0xFF && t.sp == 0xFD &&
      t.pc == 0x1234 && t.cyc == 6) = true := by decide

theorem test_rts_v138 : (nextIs (step (bootWith (fun s => { s with sp := 0xFD })
    [(0x0200, 0x60), (0x01FE, 0xFF), (0x01FF, 0xFF)]))
    fun t => t.sp == 0xFF && t.pc == 0x0000 && t.cyc == 6) = true := by decide

theorem test_rts_v139 : (nextIs (step (bootWith (fun s => { s with sp := 0xFF })
    [(0x0200, 0x60), (0x0100, 0x33), (0x0101, 0x44)]))
    fun t => t.sp == 0x01 && t.pc == 0x4434 && t.cyc == 6) = true := by decide

theorem test_brk_v140 : (nextIs (step (bootWith (fun s => { s with n := true, c := true })
    [(0x0200, 0x00), (0x0201, 0xEA), (0xFFFE, 0x00), (0xFFFF, 0x80)]))
    fun t => t.peek 0x01FD == 0xB1 && t.peek 0x01FE == 0x02 && t.peek 0x01FF == 0x02 &&
      t.sp == 0xFC && t.pc == 0x8000 && t.i && t.cyc == 7) = true := by decide

theorem test_brk_v142 : (nextIs (step (bootWith (fun s => { s with
      cfg := { Config.default with bWriteback := true } })
    [(0x0200, 0x00), (0x0201, 0xEA), (0xFFFE, 0x00), (0xFFFF, 0x80)]))
    fun t => t.peek 0x01FD == 0x30 && t.peek 0x01FE == 0x02 && t.peek 0x01FF == 0x02 &&
      t.sp == 0xFC && t.pc == 0x8000 && t.b && t.i && t.cyc == 7) = true := by decide

theorem test_rti_v145 : (nextIs (step (bootWith (fun s => { s with sp := 0xFC, i := true })
    [(0x0200, 0x40), (0x01FD, 0x23), (0x01FE, 0x05), (0x01FF, 0x02)]))
    fun t => t.sp == 0xFF && t.pc == 0x0205 && !t.i && t.z && t.c && t.cyc == 6) = true := by decide

theorem test_unassigned_v147 : (nextIs (step (bootWith (fun s => { s with policy := .treatAsNop })
    [(0x0200, 0x02)]))
    fun t => t.pc == 0x0201 && t.cyc == 2) = true := by decide

theorem test_lda_v152 : (memoryFaultIs (step (oneByte .writeOnly 0x0201
    (bootWith (fun s => { s with a := 0x55 })
    [(0x0200, 0xA9), (0x0201, 0x01)]))) 0x0201
    fun t => t.pc == 0x0202 && t.cyc == 1) = true := by decide

theorem test_inc_v156 : (memoryFaultIs (step (oneByte .rom 0x0010
    (boot [(0x0200, 0xE6), (0x0201, 0x10), (0x0010, 0xFF)]))) 0x0010
    fun t => t.pc == 0x0202 && t.z && t.cyc == 4) = true := by decide

theorem test_brk_v164 : (memoryFaultIs (step (oneByte .writeOnly 0xFFFF
    (boot
    [(0x0200, 0x00), (0x0201, 0xEA), (0xFFFE, 0x00), (0xFFFF, 0x80)]))) 0xFFFF
    fun t => t.peek 0x01FD == 0x30 && t.peek 0x01FE == 0x02 && t.peek 0x01FF == 0x02 &&
      t.sp == 0xFC && t.pc == 0x0202 && t.i && t.cyc == 6) = true := by decide

theorem test_nop_v171 : (nextIs (step (bootWith (fun s => { s with
      irqLine := true, i := false, nmiPending := true })
    [(0x0200, 0xEA), (0xFFFB, 0x90), (0xFFFD, 0x80), (0xFFFF, 0xA0), (0x8000, 0xEA),
     (0x9000, 0xEA), (0x9001, 0xEA), (0xA000, 0xEA), (0xA001, 0xEA)]))
    fun t => t.peek 0x01FD == 0x20 && t.peek 0x01FF == 0x02 && t.sp == 0xFC &&
      t.pc == 0x9001 && t.i && !t.nmiPending && t.cyc == 9) = true := by decide

theorem test_nop_v172 : (nextIs (step (bootWith (fun s => { s with
      irqLine := true, i := false, b := true, d := true })
    [(0x0200, 0xEA), (0xFFFB, 0x90), (0xFFFD, 0x80), (0xFFFF, 0xA0), (0x8000, 0xEA),
     (0x9000, 0xEA), (0x9001, 0xEA), (0xA000, 0xEA), (0xA001, 0xEA)]))
    fun t => t.peek 0x01FD == 0x28 && t.peek 0x01FF == 0x02 && t.sp == 0xFC &&
      t.pc == 0xA001 && t.i && t.b && t.d && t.cyc == 9) = true := by decide

theorem test_nop_v174 : (nextIs (step (bootWith (fun s => { s with
      resetLine := true, nmiPending := true, irqLine := true })
    [(0x0200, 0xEA), (0xFFFB, 0x90), (0xFFFD, 0x80), (0xFFFF, 0xA0), (0x8000, 0xEA),
     (0x9000, 0xEA), (0x9001, 0xEA), (0xA000, 0xEA), (0xA001, 0xEA)]))
    fun t => t.nmiPending && t.cyc == 0) = true := by decide

theorem test_nop_v176 : (memoryFaultIs (step (oneByte .rom 0x01FE
    (bootWith (fun s => { s with nmiPending := true })
    [(0x0200, 0xEA), (0xFFFB, 0x90), (0xFFFD, 0x80), (0xFFFF, 0xA0), (0x8000, 0xEA),
     (0x9000, 0xEA), (0x9001, 0xEA), (0xA000, 0xEA), (0xA001, 0xEA)]))) 0x01FE
    fun t => t.peek 0x01FF == 0x02 && t.sp == 0xFE && !t.nmiPending && t.cyc == 3) = true := by decide

/-- V146: an unassigned opcode under ThrowException. -/
theorem test_unassigned_v146 : invalidOpcodeIs (step (boot [(0x0200, 0x02)])) 0x0200 0x02
    (fun t => t.pc == 0x0201 && t.cyc == 1) = true := by decide

/-- S9: `Reset()` from CYC 100. -/
theorem test_reset_s9 : nextIs (engineReset (bootWith (fun s => { s with cyc := 100 }) [(0xFFFD, 0x80)]))
    (fun t => t.pc == 0x8000 && t.i && t.cyc == 107 && t.sp == 0xFF) = true := by decide

/-- S10: `Run(1)` at a NOP takes the whole of it and returns 2; `Run(0)` does nothing. -/
theorem test_run_s10 :
    (match run 1 1 (boot [(0x0200, 0xEA)]) with
      | some (.next (total, t)) => total == 2 && t.pc == 0x0201
      | _ => false) = true ∧ run 0 0 (boot []) = some (.next (0, boot [])) := ⟨by decide, rfl⟩

/-! ## Witnesses: states and operands that meet the hypotheses of each statement -/

/-- The common state with X, Y and S at values that make additions wrap. -/
def wrapState : State := bootWith (fun s => { s with a := 0x80, x := 0x20, y := 0xFF, sp := 0x01, c := true })
  [(0x0000, 0x12), (0x001F, 0xF0), (0x00FF, 0x34), (0x30FF, 0x34), (0x3000, 0x12)]

/-- A state in which NMI or IRQ and BRK lead to a lone RTI, the stack one byte below its wrap. -/
def handlerState : State := bootWith (fun s => { s with sp := 0x01, n := true, c := true })
  [(0xFFFB, 0x90), (0xFFFF, 0xA0), (0x9000, 0x40), (0xA000, 0x40)]

theorem witness_EncodeInvertsDecode :
    decode [0xAD, 0x34, 0x12, 0xFF] = .ok (.ldaAbs 0x1234) [0xFF] ∧ decode [] = .noOpcode ∧
    decode [0xFE, 0xFF] = .missingOperand 0xFE := by decide

theorem witness_OpcodeMapIsThePrintedOne :
    decode [0x00, 0x01] = .ok .brkImp [0x01] ∧ printedCell 0x00 = some ("BRK", .imp) ∧
    decode [0xFF] = .ok .unassignedFF [] ∧ printedCell 0xFF = none := by decide

/-- The first at the top of the address space, the second after an IRQ response. -/
theorem witness_StepRunsDecodedInstruction :
    (let s := bootWith (fun s => { s with pc := 0xFFFF }) [(0xFFFF, 0xAD), (0x0000, 0x34), (0x0001, 0x12)]
     s.resetLine = false ∧ pollInterrupts s = .next s ∧ decode (s.bytesFrom s.pc 3) = .ok (.ldaAbs 0x1234) [] ∧
     s.readableFrom s.pc (encode (.ldaAbs 0x1234)).length = true ∧ s.quiet = true) ∧
    (let s := { handlerState with irqLine := true }
     s.resetLine = false ∧ ∃ t, pollInterrupts s = .next t ∧ decode (t.bytesFrom t.pc 3) = .ok .rtiImp [0, 0] ∧
       t.readableFrom t.pc (encode .rtiImp).length = true) :=
  ⟨⟨by decide, rfl, by decide, by decide, by decide⟩, by decide, _, rfl, by decide, by decide⟩

theorem witness_ResetLineHaltsTheStep : ({ wrapState with resetLine := true } : State).resetLine = true := rfl

theorem witness_UnassignedOpcodeByPolicy :
    Instr.unassigned02.form = .unassigned 0x02 ∧ Instr.unassignedFF.form = .unassigned 0xFF ∧
    ({ wrapState with policy := .treatAsNop } : State).policy = .treatAsNop ∧
    wrapState.policy = .throwException ∧
    ({ wrapState with policy := .emulateHardwareBehavior } : State).policy = .emulateHardwareBehavior := by decide

/-- The three policies, at the first and the last byte of R77. -/
theorem witness_StepFollowsThePolicy : ∀ policy : Policy, ∀ opcode ∈ [(0x02 : Byte), 0xFF],
    let s := bootWith (fun s => { s with policy := policy }) [(0x0200, opcode)]
    s.resetLine = false ∧ pollInterrupts s = .next s ∧ opcode ∈ unassignedOpcodes ∧ s.policy = policy ∧
    ∃ u, memRead s.pc s = .next (opcode, u) := by
  intro policy opcode h
  simp only [List.mem_cons, List.not_mem_nil, or_false] at h
  rcases h with rfl | rfl <;> exact ⟨rfl, rfl, by decide, rfl, _, rfl⟩

theorem witness_PolicyMattersOnlyOnUnassigned :
    (Instr.ldaIzx 0xFF).mode ≠ none ∧ Instr.brkImp.mode ≠ none := by decide

/-- At the top of the address space: nothing readable; an immediate byte refused; a first and a second operand byte
refused. -/
theorem witness_RefusedFetchStopsTheStep :
    (let s := oneByte .absent 0xFFFF (bootWith (fun s => { s with pc := 0xFFFF }) [])
     s.quiet = true ∧ s.refusesRead s.pc = true) ∧
    (let s := oneByte .writeOnly 0x0000 (bootWith (fun s => { s with pc := 0xFFFF }) [(0xFFFF, 0xA9)])
     s.quiet = true ∧ s.readable s.pc = true ∧ modeOf (s.peek s.pc) = some .imm ∧ s.refusesRead (s.pc + 1) = true) ∧
    (let s := oneByte .writeOnly 0x0000 (bootWith (fun s => { s with pc := 0xFFFF }) [(0xFFFF, 0xF0)])
     s.quiet = true ∧ s.readable s.pc = true ∧ modeOf (s.peek s.pc) = some .rel ∧ 2 ≤ Mode.rel.length ∧
     s.refusesRead (s.pc + 1) = true) ∧
    (let s := oneByte .absent 0x0001 (bootWith (fun s => { s with pc := 0xFFFF }) [(0xFFFF, 0x6C)])
     s.quiet = true ∧ s.readable s.pc = true ∧ modeOf (s.peek s.pc) = some .ind ∧ Mode.ind.length = 3 ∧
     s.readable (s.pc + 1) = true ∧ s.refusesRead (s.pc + 2) = true) := by decide

/-- The default table, one override in it (the published count of STA ABX, R282), a step of 2 cycles and one of 14: an
IRQ response, then BRK at the vector's target. -/
theorem witness_StepCostsOneToFourteenCycles :
    (Config.default.internalOverride = [] ∧ (Instr.aslZpx 0xFF).mode ≠ none ∧ Instr.brkImp.mode ≠ none) ∧
    ({ Config.default with internalOverride := [((0x9D : Byte).toNat, 1)] } : Config).internalOverride =
      [((0x9D : Byte).toNat, 1)] ∧
    (let s := boot [(0x0200, 0xEA)]
     s.cfg.internalOverride = [] ∧ s.resetLine = false ∧ nextIs (step s) (fun t => t.cyc == 2) = true) ∧
    (let s := ({ handlerState with irqLine := true } : State).poke 0xA000 0x00
     s.cfg.internalOverride = [] ∧ s.resetLine = false ∧ nextIs (step s) (fun t => t.cyc == 14) = true) := by decide

/-- A run whose step answers, one whose step raises, one whose step is refused, one under the reset line. -/
theorem witness_RunReturnsAtLeastWhatWasAsked :
    (let s := boot [(0x0200, 0xEA)]
     0 < 1 ∧ (∃ t, step s = .next t) ∧ ∃ total t, run 1 1 s = some (.next (total, t))) ∧
    (let s := boot [(0x0200, 0x02)]
     (∃ f, step s = .fault f) ∧ ∃ f, run 1 1 s = some (.fault f)) ∧
    (let s := bootWith (fun s => { s with policy := .emulateHardwareBehavior }) [(0x0200, 0x02)]
     (∃ f, step s = .refused f) ∧ ∃ f, run 1 1 s = some (.refused f)) ∧
    (let s : State := { wrapState with resetLine := true }; s.resetLine = true ∧ 0 < 1) :=
  ⟨⟨by decide, ⟨_, rfl⟩, _, _, rfl⟩, ⟨⟨_, rfl⟩, _, rfl⟩, ⟨⟨_, rfl⟩, _, rfl⟩, rfl, by decide⟩

theorem witness_NmiIsAnsweredFirstAndOnce :
    (let s : State := { handlerState with nmiPending := true }
     s.nmiPending = true ∧ s.pushReady 3 = true ∧ s.vectorReady 0xFFFA = true ∧ ∃ t, pollInterrupts s = .next t) ∧
    (let s : State := oneByte .rom 0x01FF { handlerState with nmiPending := true }
     s.nmiPending = true ∧ ∃ f, pollInterrupts s = .fault f) :=
  ⟨⟨by decide, by decide, by decide, _, rfl⟩, by decide, _, rfl⟩

theorem witness_IrqIsAnsweredWhenUnmasked :
    (let s : State := { handlerState with irqLine := true }
     s.nmiPending = false ∧ s.irqLine = true ∧ s.i = false ∧ s.pushReady 3 = true ∧ s.vectorReady 0xFFFE = true) ∧
    (let s : State := { handlerState with irqLine := true, i := true }
     s.nmiPending = false ∧ s.i = true) ∧
    (handlerState.nmiPending = false ∧ handlerState.irqLine = false) := by decide

theorem witness_BrkEntersTheHandler :
    handlerState.pushReady 3 = true ∧ handlerState.vectorReady 0xFFFE = true := by decide

/-- One refusal at each of the five accesses of a trap entry. -/
theorem witness_RefusedTrapEntryIsHalfDone :
    ({ handlerState with nmiPending := true } : State).nmiPending = true ∧
    (let s : State := { handlerState with irqLine := true }
     s.nmiPending = false ∧ s.irqLine = true ∧ s.i = false) ∧
    (let s := oneByte .rom 0x0101 handlerState
     s.refusesWrite (stackAddr s.sp) = true) ∧
    (let s := oneByte .rom 0x0100 handlerState
     s.pushReady 1 = true ∧ s.refusesWrite (stackAddr (s.sp - 1)) = true) ∧
    (let s := oneByte .absent 0x01FF handlerState
     s.pushReady 2 = true ∧ s.refusesWrite (stackAddr (s.sp - 2)) = true) ∧
    (let s := oneByte .writeOnly 0xFFFE handlerState
     s.pushReady 3 = true ∧ s.refusesRead 0xFFFE = true) ∧
    (let s := oneByte .absent 0xFFFF handlerState
     s.pushReady 3 = true ∧ s.readable 0xFFFE = true ∧ s.refusesRead (0xFFFE + 1) = true) := by decide

theorem witness_RtiRestoresFlagsAndPc :
    (let s := bootWith (fun s => { s with sp := 0xFE }) [(0x01FF, 0xC3), (0x0101, 0x12)]
     s.pullReady 3 = true ∧ ∃ v t, pull s = .next (v, t) ∧ ∃ w u, pull16 (t.unpack v) = .next (w, u)) ∧
    (let s := oneByte .absent 0x0100 (bootWith (fun s => { s with sp := 0xFE }) [])
     s.pullReady 1 = true ∧ s.refusesRead (stackAddr (s.sp + 2)) = true ∧
     ∃ v t, pull s = .next (v, t) ∧ ∃ f, pull16 (t.unpack v) = .fault f) ∧
    (let s := oneByte .writeOnly 0x01FF (bootWith (fun s => { s with sp := 0xFE }) [])
     s.refusesRead (stackAddr (s.sp + 1)) = true ∧ ∃ f, pull s = .fault f) ∧
    (let s := oneByte .absent 0x0101 (bootWith (fun s => { s with sp := 0xFE }) [])
     s.pullReady 2 = true ∧ s.refusesRead (stackAddr (s.sp + 3)) = true) :=
  ⟨⟨by decide, _, _, rfl, _, _, rfl⟩, ⟨by decide, by decide, _, _, rfl, _, rfl⟩, ⟨by decide, _, rfl⟩, by decide⟩

theorem witness_BrkThenRtiRestores :
    let s := handlerState
    s.quiet = true ∧ s.readable s.pc = true ∧ s.peek s.pc = 0x00 ∧ Memory.wf s.mem = true ∧ s.pushReady 3 = true ∧
    (s.setSP (s.sp - 3)).pullReady 3 = true ∧ s.vectorReady 0xFFFE = true ∧
    s.readable (s.peekWord 0xFFFE) = true ∧ s.peek (s.peekWord 0xFFFE) = 0x40 ∧
    s.peekWord 0xFFFE ∉ [stackAddr s.sp, stackAddr (s.sp - 1), stackAddr (s.sp - 2)] := by decide

/-- What the statement says of a step over a BRK and the RTI at its handler, on the witness. -/
theorem test_brk_then_rti : nextIs (step handlerState) (fun t => nextIs (step t) (fun u =>
    t.pc == 0xA000 && t.i && u.pc == 0x0202 && u.sp == 0x01 && u.n && u.c && !u.i && u.b)) = true := by decide

theorem witness_InterruptThenRtiRestores :
    (let s : State := { handlerState with nmiPending := true, irqLine := true, i := true }
     s.nmiPending = true ∧ s.resetLine = false ∧ Memory.wf s.mem = true ∧ s.pushReady 3 = true ∧
     (s.setSP (s.sp - 3)).pullReady 3 = true ∧ s.vectorReady 0xFFFA = true ∧
     s.readable (s.peekWord 0xFFFA) = true ∧ s.peek (s.peekWord 0xFFFA) = 0x40 ∧
     s.peekWord 0xFFFA ∉ [stackAddr s.sp, stackAddr (s.sp - 1), stackAddr (s.sp - 2)]) ∧
    (let s : State := { handlerState with irqLine := true }
     s.nmiPending = false ∧ s.irqLine = true ∧ s.i = false ∧ s.resetLine = false ∧ Memory.wf s.mem = true ∧
     s.pushReady 3 = true ∧ (s.setSP (s.sp - 3)).pullReady 3 = true ∧ s.vectorReady 0xFFFE = true ∧
     s.readable (s.peekWord 0xFFFE) = true ∧ s.peek (s.peekWord 0xFFFE) = 0x40 ∧
     s.peekWord 0xFFFE ∉ [stackAddr s.sp, stackAddr (s.sp - 1), stackAddr (s.sp - 2)]) := by decide

/-- What the statement says of one step, on the witness of the IRQ. -/
theorem test_irq_then_rti : nextIs (step { handlerState with irqLine := true }) (fun u =>
    u.pc == 0x0200 && u.sp == 0x01 && u.n && u.c && !u.i && !u.b && u.irqLine && u.cyc == 13) = true := by decide

theorem witness_EngineResetEffects :
    wrapState.vectorReady 0xFFFC = true ∧ (oneByte .absent 0xFFFC wrapState).refusesRead 0xFFFC = true ∧
    (oneByte .writeOnly 0xFFFD wrapState).readable 0xFFFC = true ∧
    (oneByte .writeOnly 0xFFFD wrapState).refusesRead 0xFFFD = true := by decide

/-- Both actions that change the latch, one that changes the line. -/
theorem witness_NmiEdgeArmsTheLatch :
    (wrapState.nmiLine = false ∧ ∃ t, pollInterrupts wrapState = .next t) ∧
    (applyHost .triggerNmi wrapState).nmiPending ≠ wrapState.nmiPending ∧
    (applyHost (.setNmiLine true) wrapState).nmiPending ≠ wrapState.nmiPending ∧
    (applyHost (.setNmiLine true) wrapState).nmiLine ≠ wrapState.nmiLine :=
  ⟨⟨rfl, _, rfl⟩, by decide, by decide, by decide⟩

theorem witness_HostReadsAndWritesRegisters : Memory.wf wrapState.mem = true := by decide

/-- One byte set at the top of memory, the one at the bottom kept. -/
theorem test_host_pokeMemory : (applyHost (.pokeMemory 0xFFFF 0x5A) wrapState).peek 0xFFFF = 0x5A ∧
    (applyHost (.pokeMemory 0xFFFF 0x5A) wrapState).peek 0x0000 = 0x12 := by decide

/-- Any plain address; the two at the ends of the address space. -/
theorem witness_ReadAfterWriteOnPlainMemory :
    Memory.wf wrapState.mem = true ∧ wrapState.kindAt 0x0000 = .ram ∧ wrapState.kindAt 0xFFFF = .ram ∧
    (oneByte .rom 0xFFFF wrapState).readable 0xFFFF = true := by decide

theorem witness_PushedWordIsLittleEndian :
    let s : State := { wrapState with sp := 0x00 }
    Memory.wf s.mem = true ∧ s.pushReady 2 = true ∧ (s.setSP (s.sp - 2)).pullReady 2 = true := by decide

/-- The premise for each of the six modes, at sums that wrap, and both costs of the indexed two. -/
theorem witness_DirectAndIndexedAddresses :
    (255 = (0xFF : Byte).toNat ∧ 0 = 0) ∧ 16 = ((0xF0 : Byte).toNat + wrapState.x.toNat) % 256 ∧
    0 = ((0x01 : Byte).toNat + wrapState.y.toNat) % 256 ∧ 65535 = (0xFFFF : Word).toNat ∧
    (0 = ((0xFFE0 : Word).toNat + wrapState.x.toNat) % 65536 ∧
      1 = if 0 / 256 = (0xFFE0 : Word).toNat / 256 then 0 else 1) ∧
    (0x30FF = ((0x3000 : Word).toNat + wrapState.y.toNat) % 65536 ∧
      0 = if 0x30FF / 256 = (0x3000 : Word).toNat / 256 then 0 else 1) := by decide

/-- The premise for each of the three modes, at pointers whose second byte wraps, with each clause's reads. -/
theorem witness_PointerModes :
    (0x30FF = (0x30FF : Word).toNat ∧
      0x3000 = (0x30FF : Word).toNat / 256 * 256 + ((0x30FF : Word).toNat % 256 + 1) % 256 ∧
      wrapState.readable 0x30FF = true ∧ wrapState.readable 0x3000 = true) ∧
    (0xFF = ((0xDF : Byte).toNat + wrapState.x.toNat) % 256 ∧ 0 = (0xFF + 1) % 256 ∧
      (oneByte .absent 0x00FF wrapState).refusesRead 0x00FF = true) ∧
    (0xFF = (0xFF : Byte).toNat ∧ 0xFF = wrapState.y.toNat ∧
      (oneByte .writeOnly 0x0000 wrapState).readable 0x00FF = true ∧
      (oneByte .writeOnly 0x0000 wrapState).refusesRead 0x0000 = true) := by decide

theorem witness_LoadsWriteOneRegister :
    sourceReady (.mem (.izx 0xDF)) wrapState = true ∧ (Instr.ldaIzx 0xDF).form = .read .lda (.mem (.izx 0xDF)) ∧
    sourceReady (.mem (.aby 0xFFFF)) wrapState = true ∧
    (Instr.ldxAby 0xFFFF).form = .read .ldx (.mem (.aby 0xFFFF)) ∧
    sourceReady (.imm 0x00) wrapState = true ∧ (Instr.ldyImm 0x00).form = .read .ldy (.imm 0x00) := by decide

theorem witness_StoresWriteOneByte :
    ((Instr.staIzy 0xFF).form = .store .sta (.izy 0xFF) ∧ pointerReadable (.izy 0xFF) wrapState = true ∧
      wrapState.writable (effAddr (.izy 0xFF) wrapState) = true) ∧
    ((Instr.stxZpy 0x01).form = .store .stx (.zpy 0x01) ∧ wrapState.writable (effAddr (.zpy 0x01) wrapState) = true) ∧
    ((Instr.styAbs 0xFFFF).form = .store .sty (.abs 0xFFFF) ∧
      (oneByte .writeOnly 0xFFFF wrapState).writable (effAddr (.abs 0xFFFF) wrapState) = true) ∧
    (∃ ea u, resolve (.abs 0xD000) (oneByte .device 0xD000 wrapState) = .next (ea, u)) ∧
    ∃ f, resolve (.izy 0xFF) (oneByte .absent 0x0000 wrapState) = .fault f :=
  ⟨by decide, by decide, by decide, ⟨_, _, rfl⟩, _, rfl⟩

theorem witness_AdcBinarySum :
    (Instr.adcIzy 0xFF).form = .read .adc (.mem (.izy 0xFF)) ∧ sourceReady (.mem (.izy 0xFF)) wrapState = true ∧
    wrapState.d = false := by decide

/-- At valid digits, and at a byte that is none under the default. -/
theorem witness_AdcDecimalSum :
    let s : State := { wrapState with d := true, a := 0x99 }
    (Instr.adcImm 0x99).form = .read .adc (.imm 0x99) ∧ sourceReady (.imm 0x99) s = true ∧ s.d = true ∧
    s.a.toNat / 16 ≤ 9 ∧ s.a.toNat % 16 ≤ 9 ∧ (0x99 : Byte).toNat / 16 ≤ 9 ∧ (0x99 : Byte).toNat % 16 ≤ 9 ∧
    (Instr.adcImm 0xFF).form = .read .adc (.imm 0xFF) ∧ s.cfg.invalidBcd = .nmos := by decide

theorem witness_SbcBinaryDifference :
    (Instr.sbcAbx 0xFFE0).form = .read .sbc (.mem (.abx 0xFFE0)) ∧
    sourceReady (.mem (.abx 0xFFE0)) wrapState = true ∧ wrapState.d = false := by decide

theorem witness_SbcDecimalDifference :
    let s : State := { wrapState with d := true, a := 0x00 }
    (Instr.sbcImm 0x99).form = .read .sbc (.imm 0x99) ∧ sourceReady (.imm 0x99) s = true ∧ s.d = true ∧
    s.a.toNat / 16 ≤ 9 ∧ s.a.toNat % 16 ≤ 9 ∧ (0x99 : Byte).toNat / 16 ≤ 9 ∧ (0x99 : Byte).toNat % 16 ≤ 9 ∧
    (Instr.sbcImm 0xFF).form = .read .sbc (.imm 0xFF) ∧ s.cfg.invalidBcd = .nmos := by decide

theorem witness_ComparesSetNZC :
    (Instr.cmpIzx 0xDF).form = .read .cmp (.mem (.izx 0xDF)) ∧ sourceReady (.mem (.izx 0xDF)) wrapState = true ∧
    (Instr.cpxImm 0x20).form = .read .cpx (.imm 0x20) ∧ (Instr.cpyAbs 0xFFFF).form = .read .cpy (.mem (.abs 0xFFFF)) ∧
    sourceReady (.mem (.abs 0xFFFF)) wrapState = true := by decide

theorem witness_LogicalOperationsAndBit :
    sourceReady (.mem (.zpx 0xE0)) wrapState = true ∧ (Instr.andZpx 0xE0).form = .read .and (.mem (.zpx 0xE0)) ∧
    (Instr.oraZpx 0xE0).form = .read .ora (.mem (.zpx 0xE0)) ∧
    (Instr.eorZpx 0xE0).form = .read .eor (.mem (.zpx 0xE0)) ∧
    sourceReady (.mem (.abs 0xFFFF)) wrapState = true ∧
    (Instr.bitAbs 0xFFFF).form = .read .bit (.mem (.abs 0xFFFF)) := by decide

theorem witness_AccumulatorShifts :
    Instr.aslAcc.form = .modifyAcc .asl ∧ Instr.lsrAcc.form = .modifyAcc .lsr ∧
    Instr.rolAcc.form = .modifyAcc .rol ∧ Instr.rorAcc.form = .modifyAcc .ror := by decide

theorem witness_ReadModifyWriteMemory :
    (∀ p ∈ [(Instr.aslAbx 0xFFE0, ModifyOp.asl), (Instr.lsrAbx 0xFFE0, .lsr), (Instr.rolAbx 0xFFE0, .rol),
      (Instr.rorAbx 0xFFE0, .ror), (Instr.incAbx 0xFFE0, .inc), (Instr.decAbx 0xFFE0, .dec)],
      p.1.form = .modify p.2 (.abx 0xFFE0) ∧ pointerReadable (.abx 0xFFE0) wrapState = true ∧
      wrapState.readable (effAddr (.abx 0xFFE0) wrapState) = true ∧
      wrapState.writable (effAddr (.abx 0xFFE0) wrapState) = true) ∧
    ∃ ea u old v, resolve (.abx 0xFFE0) wrapState = .next (ea, u) ∧ memRead ea u = .next (old, v) :=
  ⟨by decide, _, _, _, _, rfl, rfl⟩

/-- S at 00, the bottom of the stack page. -/
theorem witness_PhaAndPhpPushOneByte :
    let s : State := { wrapState with sp := 0x00 }
    s.writable (BitVec.ofNat 16 (256 + s.sp.toNat)) = true ∧
    (oneByte .rom 0x0100 s).refusesWrite (BitVec.ofNat 16 (256 + s.sp.toNat)) = true := by decide

/-- S at FF: the pull wraps. -/
theorem witness_PlaAndPlpPullOneByte :
    let s : State := { wrapState with sp := 0xFF }
    (∃ w t, pull s = .next (w, t)) ∧ (∃ f, pull (oneByte .absent 0x0100 s) = .fault f) ∧
    s.readable (BitVec.ofNat 16 (256 + (s.sp.toNat + 1) % 256)) = true ∧
    (oneByte .absent 0x0100 s).refusesRead (BitVec.ofNat 16 (256 + (s.sp.toNat + 1) % 256)) = true :=
  ⟨⟨_, _, rfl⟩, ⟨_, rfl⟩, by decide, by decide⟩

theorem witness_FlagInstructionsWriteOneFlag :
    (let s : State := { wrapState with irqLine := true }
     s.nmiPending = false ∧ s.irqLine = true ∧ (∃ t, exec .cliImp s = .next t) ∧ ∃ t, exec .seiImp s = .next t) ∧
    (let s : State := { wrapState with nmiPending := true }
     s.nmiPending = true ∧ ∃ t, exec .seiImp s = .next t) :=
  ⟨⟨rfl, rfl, ⟨_, rfl⟩, _, rfl⟩, rfl, _, rfl⟩

theorem witness_StackRoundTrips :
    let s : State := { wrapState with sp := 0x00 }
    (Memory.wf s.mem = true ∧ s.pushReady 2 = true ∧ (s.setSP (s.sp - 2)).pullReady 2 = true) ∧
    (∃ t, exec (.jsrAbs 0xC000) s = .next t) ∧ (∃ t, exec .phaImp s = .next t) ∧ ∃ t, exec .phpImp s = .next t :=
  ⟨by decide, ⟨_, rfl⟩, ⟨_, rfl⟩, _, rfl⟩

/-- Each branch, with a state that takes it and one that does not. -/
theorem witness_BranchesTestOneFlag :
    (Instr.bccRel 0x80).form = .branch .bcc 0x80 ∧ (Instr.bcsRel 0x7F).form = .branch .bcs 0x7F ∧
    (Instr.beqRel 0x00).form = .branch .beq 0x00 ∧ (Instr.bneRel 0xFE).form = .branch .bne 0xFE ∧
    (Instr.bmiRel 0xFF).form = .branch .bmi 0xFF ∧ (Instr.bplRel 0x01).form = .branch .bpl 0x01 ∧
    (Instr.bvcRel 0x80).form = .branch .bvc 0x80 ∧ (Instr.bvsRel 0x80).form = .branch .bvs 0x80 ∧
    (let s := { wrapState with c := true, z := true, n := true, v := true }
     (!s.c) = false ∧ s.c = true ∧ s.z = true ∧ (!s.z) = false ∧ s.n = true ∧ (!s.n) = false ∧
     (!s.v) = false ∧ s.v = true) ∧
    (let s := { wrapState with c := false, z := false, n := false, v := false }
     (!s.c) = true ∧ s.c = false ∧ s.z = false ∧ (!s.z) = true ∧ s.n = false ∧ (!s.n) = true ∧
     (!s.v) = true ∧ s.v = false) := by decide

theorem witness_JumpsLoadPc :
    (wrapState.readable 0x30FF = true ∧ wrapState.readable (BitVec.ofNat 16 (0x30FF / 256 * 256 + (0x30FF % 256 + 1) %
      256)) = true) ∧
    (∃ lo t, memRead 0x30FF wrapState = .next (lo, t) ∧ ∃ hi u, memRead 0x3000 t = .next (hi, u)) ∧
    (∃ lo t, memRead 0x30FF (oneByte .absent 0x3000 wrapState) = .next (lo, t) ∧ ∃ f, memRead 0x3000 t = .fault f) ∧
    (∃ f, memRead 0x30FF (oneByte .absent 0x30FF wrapState) = .fault f) :=
  ⟨by decide, ⟨_, _, rfl, _, _, rfl⟩, ⟨_, _, rfl, _, rfl⟩, _, rfl⟩

theorem witness_JsrPushesItsLastByteAddress :
    let s : State := { wrapState with sp := 0x00 }
    s.pushReady 2 = true ∧ (oneByte .rom 0x0100 s).refusesWrite (stackAddr s.sp) = true ∧
    (oneByte .rom 0x01FF s).pushReady 1 = true ∧ (oneByte .rom 0x01FF s).refusesWrite (stackAddr (s.sp - 1)) = true := by
  decide

theorem witness_RtsReturnsPastThePulledAddress :
    let s : State := { wrapState with sp := 0xFE }
    let lo : Word := BitVec.ofNat 16 (256 + (s.sp.toNat + 1) % 256)
    let hi : Word := BitVec.ofNat 16 (256 + (s.sp.toNat + 2) % 256)
    (∃ w t, pull16 s = .next (w, t)) ∧ (∃ f, pull16 (oneByte .absent 0x0100 s) = .fault f) ∧
    s.readable lo = true ∧ s.readable hi = true ∧ (oneByte .absent 0x01FF s).refusesRead lo = true ∧
    (oneByte .absent 0x0100 s).readable lo = true ∧ (oneByte .absent 0x0100 s).refusesRead hi = true :=
  ⟨⟨_, _, rfl⟩, ⟨_, rfl⟩, by decide, by decide, by decide, by decide, by decide⟩

/-- One form of each read-type mnemonic that answers a next state. -/
theorem witness_ReadInstructionsFrame :
    ∀ i ∈ [Instr.ldaIzx 0xDF, .ldxAby 0xFFFF, .ldyZpx 0xE0, .adcIzy 0xFF, .sbcAbx 0xFFE0, .cmpZp 0xFF, .cpxAbs 0xFFFF,
      .cpyImm 0x00, .andIzx 0xDF, .oraIzy 0xFF, .eorAby 0xFFFF, .bitAbs 0xFFFF],
    (∃ op src, i.form = .read op src) ∧ completes (exec i wrapState) = true := by
  intro i h
  simp only [List.mem_cons, List.not_mem_nil, or_false] at h
  rcases h with rfl | rfl | rfl | rfl | rfl | rfl | rfl | rfl | rfl | rfl | rfl | rfl <;>
    exact ⟨⟨_, _, rfl⟩, by decide⟩

theorem witness_OperandComesFromTheBus :
    ((Instr.adcIzx 0xDF).form = .read .adc (.mem (.izx 0xDF)) ∧
      (∃ w t, loadOperand (.mem (.izx 0xDF)) wrapState = .next (w, t)) ∧
      (∃ f, loadOperand (.mem (.izx 0xDF)) (oneByte .absent 0x0000 wrapState) = .fault f)) ∧
    (∀ w, (Instr.adcImm w).form = .read .adc (.imm w)) ∧
    (Instr.bitZp 0xFF).form = .read .bit (.mem (.zp 0xFF)) ∧
    ∃ w t, loadOperand (.mem (.zp 0xFF)) wrapState = .next (w, t) :=
  ⟨⟨rfl, ⟨_, _, rfl⟩, _, rfl⟩, fun _ => rfl, rfl, _, _, rfl⟩

theorem witness_StoresFrame :
    (Instr.staIzy 0xFF).form = .store .sta (.izy 0xFF) ∧ Memory.wf wrapState.mem = true ∧
    (∃ ea u, resolve (.izy 0xFF) wrapState = .next (ea, u)) ∧ (∃ t, exec (.staIzy 0xFF) wrapState = .next t) ∧
    (∃ f, exec (.staIzy 0xFF) (oneByte .absent 0x0000 wrapState) = .fault f) :=
  ⟨rfl, by decide, ⟨_, _, rfl⟩, ⟨_, rfl⟩, _, rfl⟩

/-- A completed form, one whose data read is refused, and one whose write is. No read-modify-write mode reads a
pointer, so its address always resolves. -/
theorem witness_ReadModifyWriteFrame :
    ((Instr.rolZpx 0xE0).form = .modify .rol (.zpx 0xE0) ∧ Memory.wf wrapState.mem = true ∧
      (∃ ea u, resolve (.zpx 0xE0) wrapState = .next (ea, u)) ∧ ∃ t, exec (.rolZpx 0xE0) wrapState = .next t) ∧
    (let s := oneByte .writeOnly 0x0000 wrapState
     (∃ f, exec (.incZpx 0xE0) s = .fault f) ∧
     ∃ f ea u, resolve (.zpx 0xE0) s = .next (ea, u) ∧ memRead ea u = .fault f) ∧
    (let s := oneByte .rom 0x0000 wrapState
     pointerReadable (.zpx 0xE0) s = true ∧ s.kindAt (effAddr (.zpx 0xE0) s) = .rom ∧
     ∃ t, exec (.incZpx 0xE0) { s with regions := [] } = .next t) :=
  ⟨⟨rfl, by decide, ⟨_, _, rfl⟩, _, rfl⟩, ⟨⟨_, rfl⟩, _, _, _, rfl, rfl⟩, by decide, by decide, _, rfl⟩

theorem witness_StackInstructionsFrame :
    Memory.wf wrapState.mem = true ∧ ∀ i ∈ [Instr.phaImp, .phpImp, .jsrAbs 0xC000, .brkImp, .plaImp, .plpImp, .rtsImp,
      .rtiImp], completes (exec i wrapState) = true := by decide

/-- Each register is changed by some run of one of its writers. -/
theorem witness_RegistersHaveTheirWriters :
    nextIs (exec (.ldaImm 0x01) wrapState) (fun t => t.a != wrapState.a) = true ∧
    nextIs (exec .taxImp wrapState) (fun t => t.x != wrapState.x) = true ∧
    nextIs (exec .tayImp wrapState) (fun t => t.y != wrapState.y) = true ∧
    nextIs (exec .txsImp wrapState) (fun t => t.sp != wrapState.sp) = true ∧
    nextIs (exec (.bcsRel 0x10) wrapState) (fun t => t.pc != wrapState.pc) = true ∧
    nextIs (exec (.incZp 0xFF) wrapState) (fun t => decide (t.mem ≠ wrapState.mem)) = true := by decide

/-- Each flag is changed by some run of one of its writers. -/
theorem witness_FlagsHaveTheirWriters :
    nextIs (exec .clcImp wrapState) (fun t => t.c != wrapState.c) = true ∧
    nextIs (exec .brkImp wrapState) (fun t => t.i != wrapState.i) = true ∧
    nextIs (exec .sedImp wrapState) (fun t => t.d != wrapState.d) = true ∧
    nextIs (exec .brkImp { wrapState with cfg := { Config.default with bWriteback := true } })
      (fun t => t.b != wrapState.b) = true ∧
    nextIs (exec (.adcImm 0x80) wrapState) (fun t => t.v != wrapState.v) = true ∧
    nextIs (exec .tayImp wrapState) (fun t => t.n != wrapState.n) = true ∧
    nextIs (pollInterrupts { wrapState with nmiPending := true }) (fun t => t.i) = true := by decide

theorem witness_EngineLeavesTheLinesAlone :
    (∃ t, stateAfter (step (boot [(0x0200, 0x02)])) = some t) ∧ ∃ t, stateAfter (engineReset wrapState) = some t :=
  ⟨⟨_, rfl⟩, _, rfl⟩

theorem witness_MemoryStaysCanonical :
    Memory.wf wrapState.mem = true ∧ (∃ t, stateAfter (transition .step wrapState) = some t) ∧
    (∃ t, stateAfter (transition .reset wrapState) = some t) ∧
    ∃ t, stateAfter (transition (.host (.pokeMemory 0xFFFF 0x01)) wrapState) = some t :=
  ⟨by decide, ⟨_, rfl⟩, ⟨_, rfl⟩, _, rfl⟩

end Sys2Proof.Tests
end

section
/-! SUPPORT. The packed status byte as the list of its bits, what sets the NMI latch, and the statements about both
(10_state.md R17 to R19, R23, R24). -/

namespace Sys2Proof.Machine

/-! ## The status byte -/

/-- The bits of `P()` from bit 0 up (10_state.md R17): every question about one of them is a look into this list. -/
theorem State.packed_eq_ofBoolListLE (s : State) :
    s.packed = BitVec.ofBoolListLE [s.c, s.z, s.i, s.d, s.b, true, s.v, s.n] := by
  apply BitVec.eq_of_toNat_eq
  have hc := s.c.toNat_lt
  have hz := s.z.toNat_lt
  have hi := s.i.toNat_lt
  have hd := s.d.toNat_lt
  have hb := s.b.toNat_lt
  have hv := s.v.toNat_lt
  have hn := s.n.toNat_lt
  have hnil : (BitVec.ofBoolListLE []).toNat = 0 := rfl
  simp only [State.packed, BitVec.toNat_ofNat, BitVec.ofBoolListLE, BitVec.toNat_concat, Bool.toNat_true] at hnil ⊢
  omega

theorem State.packed_getLsbD (s : State) (k : Nat) :
    s.packed.getLsbD k = [s.c, s.z, s.i, s.d, s.b, true, s.v, s.n].getD k false := by
  rw [State.packed_eq_ofBoolListLE, BitVec.getLsbD_ofBoolListLE]

theorem State.packed_ge (s : State) : 0x20 ≤ s.packed.toNat :=
  Nat.ge_two_pow_of_testBit (i := 5) (s.packed_getLsbD 5)

/-- Unpacking and packing again loses bit 5 only, which comes back as 1 (R17, R18). -/
theorem State.packed_unpack (w : Byte) (s : State) : (s.unpack w).packed = w ||| 0x20 := by
  apply BitVec.eq_of_getLsbD_eq
  intro k hk
  rw [State.packed_getLsbD, BitVec.getLsbD_or]
  interval_cases k <;> simp

/-- The byte a trap pushes is `P()` of the state with that B (60_exceptions.md R239). -/
theorem State.statusByte_eq_packed (forcedB : Bool) (s : State) :
    s.statusByte forcedB = State.packed { s with b := forcedB } := by
  apply BitVec.eq_of_getLsbD_eq
  intro k hk
  rw [State.statusByte, BitVec.getLsbD_or, BitVec.getLsbD_and, State.packed_getLsbD, State.packed_getLsbD]
  interval_cases k <;> cases forcedB <;> simp

theorem State.setNZ_eq (w : Byte) (s : State) :
    s.setNZ w = { s with z := decide (w.toNat = 0), n := decide (128 ≤ w.toNat) } := by
  have hz : (w == 0) = decide (w.toNat = 0) := by
    rw [Bool.eq_iff_iff, beq_iff_eq, decide_eq_true_iff, BitVec.toNat_eq]
    rfl
  have hn : w.msb = decide (128 ≤ w.toNat) := BitVec.msb_eq_decide w
  rw [State.setNZ, hz, hn]

/-- No byte is both 0 and negative (R19). -/
theorem State.setNZ_z_and_n (w : Byte) (s : State) : ((s.setNZ w).z && (s.setNZ w).n) = false := by
  simp only [State.setNZ_eq, Bool.and_eq_false_imp, decide_eq_true_eq, decide_eq_false_iff_not]
  omega

/-- Settles O25: the packed byte is the list of its bits, and bytes whose eight bits agree are equal. -/
theorem statusBytePacksTheFlags : Obligations.StatusBytePacksTheFlags := by
  intro s w
  refine ⟨?_, rfl, s.packed_unpack w, fun forced => s.statusByte_eq_packed forced, s.setNZ_eq w, s.setNZ_z_and_n w⟩
  exact ⟨s.packed_getLsbD 7, s.packed_getLsbD 6, s.packed_getLsbD 5, s.packed_getLsbD 4, s.packed_getLsbD 3,
    s.packed_getLsbD 2, s.packed_getLsbD 1, s.packed_getLsbD 0, s.packed_ge⟩

/-! ## The NMI latch -/

@[simp] theorem State.writeFlag_nmiPending (flag : Flag) (f : Bool) (s : State) :
    (s.writeFlag flag f).nmiPending = s.nmiPending := by
  cases flag <;> rfl

@[simp] theorem State.writeFlag_nmiLine (flag : Flag) (f : Bool) (s : State) :
    (s.writeFlag flag f).nmiLine = s.nmiLine := by
  cases flag <;> rfl

/-- A transition from 0 to 1 arms the latch; every other level written leaves it (10_state.md R23). -/
theorem State.driveNmi_eq (level : Bool) (s : State) :
    s.driveNmi level =
      { s with nmiLine := level, nmiPending := if level = true ∧ s.nmiLine = false then true else s.nmiPending } := by
  cases level <;> cases hl : s.nmiLine <;> simp [State.driveNmi, hl]

/-- A pulse on a low line arms the latch and leaves the line low, as `trigger_nmi()` does (R24). -/
theorem State.driveNmi_pulse {s : State} (h : s.nmiLine = false) :
    (s.driveNmi true).driveNmi false = { s with nmiPending := true } := by
  rw [State.driveNmi_eq, State.driveNmi_eq]
  simp [h]

/-- The latch is one bit: a second transition before the poll is lost in it. -/
theorem State.driveNmi_twice {s : State} (h : s.nmiLine = false) :
    ((s.driveNmi true).driveNmi false).driveNmi true = s.driveNmi true := by
  simp [State.driveNmi, h]

/-- What a host action does to the latch: the two that R23 and R24 name set it, the others leave it. -/
theorem applyHost_nmiPending (act : HostAction) (s : State) :
    (applyHost act s).nmiPending =
      (s.nmiPending || decide (act = .triggerNmi ∨ act = .setNmiLine true ∧ s.nmiLine = false)) := by
  cases act with
  | setNmiLine level => cases level <;> simp [applyHost, State.driveNmi]
  | _ => simp [applyHost]

/-- Only setting it changes the line. -/
theorem applyHost_nmiLine {act : HostAction} (s : State) (h : ∀ level, act ≠ .setNmiLine level) :
    (applyHost act s).nmiLine = s.nmiLine := by
  cases act with
  | setNmiLine level => exact absurd rfl (h level)
  | _ => simp [applyHost]

theorem trapEntry_nmiPending {s t : State} {vector : Word} {forcedB : Bool}
    (h : trapEntry vector forcedB s = .next t) : t.nmiPending = s.nmiPending := by
  rw [trapEntry_next h]

/-- The poll consumes the latch: only the NMI response runs with it set, and clears it first (R23). -/
theorem pollInterrupts_nmiPending {s t : State} (h : pollInterrupts s = .next t) : t.nmiPending = false := by
  unfold pollInterrupts at h
  split at h
  · exact trapEntry_nmiPending h
  · rename_i hn
    have hs : s.nmiPending = false := by simpa using hn
    split at h
    · exact (trapEntry_nmiPending h).trans hs
    · cases h
      exact hs

/-- Settles O23: one equation for the line, one for the latch under every host action, one for the poll. -/
theorem nmiEdgeArmsTheLatch : Obligations.NmiEdgeArmsTheLatch := by
  intro s
  refine ⟨fun level => s.driveNmi_eq level, rfl, fun hl => ⟨State.driveNmi_pulse hl, State.driveNmi_twice hl⟩,
    fun act hact => ?_, fun act hact => ?_, fun t ht => pollInterrupts_nmiPending ht⟩
  · rw [applyHost_nmiPending] at hact
    simpa [and_comm] using hact
  · by_contra hne
    exact hact (applyHost_nmiLine s fun level he => hne ⟨level, he⟩)

end Sys2Proof.Machine
end

section
/-! SUPPORT. Where the stack bytes lie, and what a pushed word leaves in memory and a pull makes of it
(20_memory.md R46, 41_addressing_modes.md R125, R129). -/

namespace Sys2Proof.Machine

/-! ## A word on the stack -/

theorem stackAddr_eq_ofNat (sp : Byte) : stackAddr sp = BitVec.ofNat 16 (256 + sp.toNat) := by
  apply BitVec.eq_of_toNat_eq
  have h := sp.isLt
  have hpage : (0x01 : Byte).toNat = 1 := rfl
  rw [stackAddr, word_toNat, BitVec.toNat_ofNat]
  omega

theorem stackAddr_inj {p q : Byte} : stackAddr p = stackAddr q ↔ p = q := by
  simp [stackAddr, word_inj]

/-- Whether the pulls are plain depends on S and the region map only. -/
theorem State.pullReady_congr {s t : State} (hsp : t.sp = s.sp) (hr : t.regions = s.regions) (k : Nat) :
    t.pullReady k = s.pullReady k := by
  induction k generalizing s t with
  | zero => rfl
  | succ k ih =>
    have hkind (addr : Word) : t.kindAt addr = s.kindAt addr := by rw [State.kindAt, State.kindAt, hr]
    have htail : (t.setSP (s.sp + 1)).pullReady k = (s.setSP (s.sp + 1)).pullReady k := ih rfl hr
    simp only [State.pullReady, State.readable, hkind, hsp, htail]

section
variable {s t : State} {w : Word} (hm : Memory.wf s.mem = true) (hpush : s.pushReady 2 = true)
  (h : push16 w s = .next t)
include hm hpush h

/-- The low byte, written second, lands below S and so leaves the high byte alone, at S = 0 too. -/
theorem push16_peek_high : t.peek (stackAddr s.sp) = hiByte w := by
  cases (push16_ready w hpush).symm.trans h
  simp [State.peek_poke (State.wf_poke hm _ _), State.peek_poke hm, stackAddr_inj]

theorem push16_peek_low : t.peek (stackAddr (s.sp - 1)) = loByte w := by
  cases (push16_ready w hpush).symm.trans h
  simp [State.peek_poke (State.wf_poke hm _ _)]

/-- A pull right after a push answers the pushed word, and S is back where it was. -/
theorem pull16_push16 (hpull : (s.setSP (s.sp - 2)).pullReady 2 = true) :
    pull16 t = .next (w, (t.setSP s.sp).tick 2) := by
  have ht := push16_next h
  have hsp : t.sp = s.sp - 2 := by rw [ht]
  have hready : t.pullReady 2 = true := by
    rw [← hpull]
    exact State.pullReady_congr hsp (by rw [ht]; rfl) 2
  have hhigh : t.sp + 2 = s.sp := by bv_omega
  have hlow : t.sp + 1 = s.sp - 1 := by bv_omega
  rw [pull16_ready hready, hhigh, hlow, push16_peek_high hm hpush h, push16_peek_low hm hpush h, word_hiByte_loByte]

end

/-- Settles O29: the two addresses in integers, then what a push leaves there and what a pull makes of it. -/
theorem pushedWordIsLittleEndian : Obligations.PushedWordIsLittleEndian := by
  intro s w hm hpush hpull
  have h := push16_ready w hpush
  have hsp : (s.sp - 2).toNat = (s.sp.toNat + 254) % 256 := by bv_omega
  have hbelow : (s.sp - 1).toNat = (s.sp.toNat + 255) % 256 := by bv_omega
  refine ⟨_, h, hsp, ?_, ?_, ?_⟩
  · rw [← stackAddr_eq_ofNat, push16_peek_high hm hpush h, hiByte_toNat]
  · rw [← hbelow, ← stackAddr_eq_ofNat, push16_peek_low hm hpush h, loByte_toNat]
  · rw [pull16_push16 hm hpush h hpull]
    simp [State.setSP, State.tick, BitVec.add_assoc]

end Sys2Proof.Machine
end

section
/-! SUPPORT. What the opcode byte alone says of an instruction: its cell of the printed map, its place in the list of
the unassigned bytes, and its length (30_encoding.md R72, R76, R77). -/

namespace Sys2Proof

open Machine

/-! ## Unassigned instructions -/

/-- Only an unassigned opcode has no mode (R74). -/
theorem Form.mode_eq_none_iff {f : Form} : f.mode = none ↔ ∃ op, f = .unassigned op := by
  cases f <;> simp [Form.mode]

/-- A constructor stands for one cell of the table, so no instruction is ill-formed (R78). -/
@[simp] theorem Instr.wellFormed_eq_true (i : Instr) : i.wellFormed = true := by
  cases i <;> rfl

/-- Every assigned constructor's pair is another one; an unassigned constructor stands for its own byte. -/
theorem Instr.opcode_of_form_unassigned {i : Instr} {op : Byte} (h : i.form = .unassigned op) : i.opcode = op := by
  cases i <;> cases h <;> rfl

theorem Instr.form_of_mode_eq_none {i : Instr} (h : i.mode = none) : i.form = .unassigned i.opcode := by
  obtain ⟨op, hform⟩ := Form.mode_eq_none_iff.mp h
  rw [Instr.opcode_of_form_unassigned hform, hform]

/-- The list of R77 holds the bytes of exactly the instructions without a mode. -/
theorem Instr.opcode_mem_unassignedOpcodes_iff (i : Instr) : i.opcode ∈ unassignedOpcodes ↔ i.mode = none := by
  constructor
  · intro hmem
    rw [← modeOf_opcode]
    exact (decodeBytes_unassigned i.opcode hmem).1
  · intro hmode
    have hwf := i.wellFormed_eq_true
    rw [Instr.wellFormed, Instr.form_of_mode_eq_none hmode] at hwf
    simpa [Form.wellFormed] using hwf

/-! ## The printed map -/

/-- The cell of an instruction's opcode byte is its mnemonic and mode, and `-` where it has no mode. `dsimp` makes the
opcode a literal first, so that the cell's digits compute in front of a free operand. -/
theorem printedCell_opcode (i : Instr) : printedCell i.opcode = i.mode.map fun mode => (i.mnemonic, mode) := by
  cases i <;> dsimp only [Instr.opcode] <;> rfl

theorem printedCell_opcode_eq_none_iff (i : Instr) : printedCell i.opcode = none ↔ i.mode = none := by
  rw [printedCell_opcode, Option.map_eq_none_iff]

/-- Whatever operand bytes follow, the decoded instruction is one of the opcode byte read. -/
theorem opcode_of_decode {op : Byte} {bytes rest : List Byte} {i : Instr} (h : decode (op :: bytes) = .ok i rest) :
    i.opcode = op := by
  rw [decode_cons] at h
  split at h <;> cases h <;> exact opcode_decodeBytes _ _ _

/-- Settles O3: the decoded instruction has the opcode byte read, and that byte's cell is its mnemonic and mode. -/
theorem opcodeMapIsThePrintedOne : Obligations.OpcodeMapIsThePrintedOne := by
  intro opcode bytes rest i hdecode
  obtain rfl := opcode_of_decode hdecode
  refine ⟨?_, ?_, rfl⟩
  · rw [printedCell_opcode]
    cases hmode : i.mode with
    | none => exact Instr.form_of_mode_eq_none hmode
    | some mode => exact ⟨rfl, rfl⟩
  · rw [Instr.opcode_mem_unassignedOpcodes_iff, printedCell_opcode_eq_none_iff]

/-! ## Lengths -/

theorem lengthOf_opcode (i : Instr) : lengthOf i.opcode = i.mode.elim 1 Mode.length := by
  rw [lengthOf, modeOf_opcode]
  cases i.mode <;> rfl

/-- Settles O4: the decoder finds an instruction's mode from its opcode byte, and the length from that mode. -/
theorem lengthFollowsMode : Obligations.LengthFollowsMode := by
  intro i
  refine ⟨rfl, modeOf_opcode i, (length_encode i).symm, ?_⟩
  rw [length_encode, lengthOf_opcode]
  cases i.mode with
  | none => rfl
  | some mode => cases mode <;> rfl

end Sys2Proof
end

section
/-! SUPPORT. The step under an asserted reset line (40_step_and_dispatch.md R91). -/

namespace Sys2Proof.Machine

theorem step_resetLine {s : State} (h : s.resetLine = true) : step s = .next s := by
  rw [step, if_pos h]

/-- What `Step` returns is the growth of CYC over a step that completes (R96). -/
theorem stepReturn_next {s t : State} (h : step s = .next t) : stepReturn s = some (t.cyc - s.cyc) := by
  rw [stepReturn, h]

/-- Settles O7: the halted step answers the state it was given, so CYC has grown by nothing. -/
theorem resetLineHaltsTheStep : Obligations.ResetLineHaltsTheStep := by
  intro s hline
  have hstep : step s = .next s := step_resetLine hline
  refine ⟨hstep, ?_, rfl⟩
  rw [stepReturn_next hstep, BitVec.sub_self]
  rfl

end Sys2Proof.Machine
end

section
/-! SUPPORT. One byte on the stack: the access of a push and of a pull in integers, and when S moves
(41_addressing_modes.md R125). -/

namespace Sys2Proof.Machine

theorem byte_sub_one_eq_ofNat (b : Byte) : b - 1 = BitVec.ofNat 8 ((b.toNat + 255) % 256) := by
  bv_omega

theorem byte_add_one_eq_ofNat (b : Byte) : b + 1 = BitVec.ofNat 8 ((b.toNat + 1) % 256) := by
  bv_omega

theorem memWrite_sp {s t : State} {addr : Word} {w : Byte} (h : memWrite addr w s = .next t) : t.sp = s.sp := by
  rw [memWrite_writesOnly h]

/-- Settles O28: a push is its write, which leaves S alone and is followed by the move of S only where it answers; a
pull is one read of the state with S already moved. -/
theorem pushAndPullOnPageOne : Obligations.PushAndPullOnPageOne := by
  intro s w
  constructor
  · rw [push, stackAddr_eq_ofNat]
    cases hwrite : memWrite (BitVec.ofNat 16 (256 + s.sp.toNat)) w s with
    | next t => rw [seq_next, memWrite_sp hwrite, byte_sub_one_eq_ofNat, State.setSP]
    | fault f => rw [seq_fault]
    | refused f => rw [seq_refused]
  · have hsp : (s.sp + 1).toNat = (s.sp.toNat + 1) % 256 := by bv_omega
    rw [pull, State.setSP_sp, stackAddr_eq_ofNat, hsp, byte_add_one_eq_ofNat, State.setSP]

end Sys2Proof.Machine
end

section
/-! SUPPORT. What each register transfer leaves of the state (42_load_store_transfer.md R136 to R142). -/

namespace Sys2Proof.Machine

/-- `SetNZ` with N read as bit 7 of the byte, as the instruction rows say it (10_state.md R19). -/
theorem State.setNZ_eq_getLsbD (w : Byte) (s : State) :
    s.setNZ w = { s with z := decide (w.toNat = 0), n := w.getLsbD 7 } := by
  have hbit : w.msb = w.getLsbD 7 := BitVec.msb_eq_getLsbD_last w
  rw [State.setNZ_eq, ← BitVec.msb_eq_decide w, hbit]

section
variable (s : State)

theorem exec_taxImp :
    exec .taxImp s = .next { s with x := s.a, z := decide (s.a.toNat = 0), n := s.a.getLsbD 7 } :=
  congrArg Host.Outcome.next (State.setNZ_eq_getLsbD s.a (s.setX s.a))

theorem exec_tayImp :
    exec .tayImp s = .next { s with y := s.a, z := decide (s.a.toNat = 0), n := s.a.getLsbD 7 } :=
  congrArg Host.Outcome.next (State.setNZ_eq_getLsbD s.a (s.setY s.a))

theorem exec_tsxImp :
    exec .tsxImp s = .next { s with x := s.sp, z := decide (s.sp.toNat = 0), n := s.sp.getLsbD 7 } :=
  congrArg Host.Outcome.next (State.setNZ_eq_getLsbD s.sp (s.setX s.sp))

theorem exec_txaImp :
    exec .txaImp s = .next { s with a := s.x, z := decide (s.x.toNat = 0), n := s.x.getLsbD 7 } :=
  congrArg Host.Outcome.next (State.setNZ_eq_getLsbD s.x (s.setA s.x))

/-- The one transfer without `SetNZ` (R140). -/
theorem exec_txsImp : exec .txsImp s = .next { s with sp := s.x } := rfl

theorem exec_tyaImp :
    exec .tyaImp s = .next { s with a := s.y, z := decide (s.y.toNat = 0), n := s.y.getLsbD 7 } :=
  congrArg Host.Outcome.next (State.setNZ_eq_getLsbD s.y (s.setA s.y))

end

/-- Settles O34: one equation per transfer, then their opcode bytes and the default table at those bytes. -/
theorem transfersCopyARegister : Obligations.TransfersCopyARegister := by
  refine ⟨fun s => ?_, ?_, ?_⟩
  · exact ⟨exec_taxImp s, exec_tayImp s, exec_tsxImp s, exec_txaImp s, exec_txsImp s, exec_tyaImp s⟩
  · exact ⟨rfl, rfl, rfl, rfl, rfl, rfl⟩
  · decide

end Sys2Proof.Machine
end

section
/-! SUPPORT. The index registers counted up and down, in integers modulo 256 (43_arithmetic_compare.md R159 to R162). -/

namespace Sys2Proof.Machine

/-- `SetNZ` of a result given as an integer modulo 256 (10_state.md R19). -/
theorem State.setNZ_ofNat_mod (k : Nat) (s : State) :
    s.setNZ (BitVec.ofNat 8 (k % 256)) = { s with z := decide (k % 256 = 0), n := decide (128 ≤ k % 256) } := by
  rw [State.setNZ_eq, BitVec.toNat_ofNat, Nat.mod_mod]

section
variable (s : State)

theorem exec_inxImp :
    exec .inxImp s = .next { s with
      x := BitVec.ofNat 8 ((s.x.toNat + 1) % 256), z := decide ((s.x.toNat + 1) % 256 = 0),
      n := decide (128 ≤ (s.x.toNat + 1) % 256) } := by
  change execInxImp s = _
  rw [execInxImp, byte_add_one_eq_ofNat, State.setNZ_ofNat_mod, State.setX]

theorem exec_inyImp :
    exec .inyImp s = .next { s with
      y := BitVec.ofNat 8 ((s.y.toNat + 1) % 256), z := decide ((s.y.toNat + 1) % 256 = 0),
      n := decide (128 ≤ (s.y.toNat + 1) % 256) } := by
  change execInyImp s = _
  rw [execInyImp, byte_add_one_eq_ofNat, State.setNZ_ofNat_mod, State.setY]

theorem exec_dexImp :
    exec .dexImp s = .next { s with
      x := BitVec.ofNat 8 ((s.x.toNat + 255) % 256), z := decide ((s.x.toNat + 255) % 256 = 0),
      n := decide (128 ≤ (s.x.toNat + 255) % 256) } := by
  change execDexImp s = _
  rw [execDexImp, byte_sub_one_eq_ofNat, State.setNZ_ofNat_mod, State.setX]

theorem exec_deyImp :
    exec .deyImp s = .next { s with
      y := BitVec.ofNat 8 ((s.y.toNat + 255) % 256), z := decide ((s.y.toNat + 255) % 256 = 0),
      n := decide (128 ≤ (s.y.toNat + 255) % 256) } := by
  change execDeyImp s = _
  rw [execDeyImp, byte_sub_one_eq_ofNat, State.setNZ_ofNat_mod, State.setY]

end

/-- Settles O40: one equation per instruction, its count and `SetNZ` in integers modulo 256; then the opcode bytes and
the default table at those bytes. -/
theorem indexRegistersCountModulo256 : Obligations.IndexRegistersCountModulo256 := by
  refine ⟨fun s => ?_, ?_, ?_⟩
  · exact ⟨exec_inxImp s, exec_inyImp s, exec_dexImp s, exec_deyImp s⟩
  · exact ⟨rfl, rfl, rfl, rfl⟩
  · decide

end Sys2Proof.Machine
end

section
/-! SUPPORT. What each flag instruction and NOP leaves of the state, and what a poll answers by the NMI latch, the IRQ
line and I (45_stack_flag_nop.md R194 to R202, 60_exceptions.md R236). -/

namespace Sys2Proof.Machine

section
variable {s : State}

/-! ## The three outcomes of a poll -/

/-- NMI comes first, whatever I and the IRQ line are. -/
theorem pollInterrupts_of_nmiPending (hnmi : s.nmiPending = true) : pollInterrupts s = nmiResponse s := by
  rw [pollInterrupts, if_pos hnmi]

theorem pollInterrupts_of_irq_unmasked (hnmi : s.nmiPending = false) (hirq : s.irqLine = true) (hi : s.i = false) :
    pollInterrupts s = irqResponse s := by
  simp [pollInterrupts, hnmi, hirq, hi]

theorem pollInterrupts_of_masked (hnmi : s.nmiPending = false) (hi : s.i = true) : pollInterrupts s = .next s := by
  simp [pollInterrupts, hnmi, hi]

end

section
variable (s : State)

/-! ## The instructions -/

theorem exec_clcImp : exec .clcImp s = .next (s.setC false) := rfl

theorem exec_secImp : exec .secImp s = .next (s.setC true) := rfl

theorem exec_cliImp : exec .cliImp s = .next (s.setI false) := rfl

theorem exec_seiImp : exec .seiImp s = .next (s.setI true) := rfl

theorem exec_cldImp : exec .cldImp s = .next (s.setD false) := rfl

theorem exec_sedImp : exec .sedImp s = .next (s.setD true) := rfl

theorem exec_clvImp : exec .clvImp s = .next (s.setV false) := rfl

theorem exec_nopImp : exec .nopImp s = .next s := rfl

end

section
variable {s t : State}

/-! ## The poll after CLI and SEI -/

/-- CLI unmasks an asserted IRQ for the very next poll, with no delay (R196). -/
theorem pollInterrupts_after_cli (hnmi : s.nmiPending = false) (hirq : s.irqLine = true)
    (h : exec .cliImp s = .next t) : pollInterrupts t = irqResponse t := by
  cases (exec_cliImp s).symm.trans h
  exact pollInterrupts_of_irq_unmasked hnmi hirq (State.setI_i false s)

/-- SEI masks the IRQ, whatever its line, for the very next poll (R197). -/
theorem pollInterrupts_after_sei (hnmi : s.nmiPending = false) (h : exec .seiImp s = .next t) :
    pollInterrupts t = .next t := by
  cases (exec_seiImp s).symm.trans h
  exact pollInterrupts_of_masked hnmi (State.setI_i true s)

/-- Neither instruction touches the NMI latch, and the poll asks for it before it looks at I. -/
theorem pollInterrupts_nmi_after_cli_or_sei (hnmi : s.nmiPending = true)
    (h : exec .cliImp s = .next t ∨ exec .seiImp s = .next t) : pollInterrupts t = nmiResponse t := by
  rcases h with hcli | hsei
  · cases (exec_cliImp s).symm.trans hcli
    exact pollInterrupts_of_nmiPending hnmi
  · cases (exec_seiImp s).symm.trans hsei
    exact pollInterrupts_of_nmiPending hnmi

end

/-- Settles O46: one equation per instruction, what the poll after CLI and SEI answers, then the opcode bytes and the
default table at those bytes. -/
theorem flagInstructionsWriteOneFlag : Obligations.FlagInstructionsWriteOneFlag := by
  refine ⟨fun s => ?_, fun s t hnmi hirq => ?_, fun s t => pollInterrupts_nmi_after_cli_or_sei, ?_, ?_⟩
  · exact ⟨exec_clcImp s, exec_secImp s, exec_cliImp s, exec_seiImp s, exec_cldImp s, exec_sedImp s, exec_clvImp s,
      exec_nopImp s⟩
  · exact ⟨pollInterrupts_after_cli hnmi hirq, pollInterrupts_after_sei hnmi⟩
  · exact ⟨rfl, rfl, rfl, rfl, rfl, rfl, rfl, rfl⟩
  · decide

end Sys2Proof.Machine
end

section
/-! SUPPORT. A branch in integers: the signed displacement, the target modulo 65,536, and the cost by the pages of the
target and of the next instruction (41_addressing_modes.md R124, 46_control_flow.md R210 to R218). -/

namespace Sys2Proof

/-! ## The displacement -/

theorem byte_toInt_eq_ite (d : Byte) : d.toInt = if d.toNat < 128 then (d.toNat : Int) else d.toNat - 256 := by
  rw [BitVec.toInt_eq_toNat_cond]
  split <;> split <;> omega

theorem sext16_toInt (d : Byte) : (sext16 d).toInt = d.toInt :=
  BitVec.toInt_signExtend_of_le (by decide)

/-- A branch instruction is the opcode byte of its constructor and the displacement. -/
theorem encode_of_form_branch {i : Instr} {op : BranchOp} {d : Byte} (h : i.form = .branch op d) :
    encode i = [i.opcode, d] := by
  rw [encode, h, Form.operandBytes]

namespace Machine

/-! ## The target and its page -/

/-- Adding the sign-extended byte is adding the signed displacement, both modulo 65,536. -/
theorem branchTarget_eq_ofNat (next : Word) (d : Byte) :
    branchTarget next d = BitVec.ofNat 16 ((next.toNat + d.toInt) % 65536).toNat := by
  have hmod : ((next.toNat + d.toInt) % 65536).toNat = (next.toNat + (sext16 d).toNat) % 65536 := by
    rw [← sext16_toInt, BitVec.toInt_eq_toNat_bmod, Int.bmod_def]
    split <;> omega
  rw [branchTarget, hmod, ← BitVec.toNat_add, BitVec.ofNat_toNat, BitVec.setWidth_eq]

theorem pageCrossed_eq_decide (base ea : Word) :
    pageCrossed base ea = decide (ea.toNat / 256 ≠ base.toNat / 256) := by
  rw [Bool.eq_iff_iff, pageCrossed, bne_iff_ne, decide_eq_true_iff, ← hiByte_toNat, ← hiByte_toNat,
    BitVec.toNat_ne_iff_ne]

/-! ## The two outcomes -/

/-- A branch instruction is `branch` on its condition (R211 to R218). -/
theorem exec_of_form_branch {i : Instr} {op : BranchOp} {d : Byte} (h : i.form = .branch op d) (s : State) :
    exec i s = branch (branchTaken op s) d s := by
  rw [exec_eq_runForm, h, runForm]

theorem branch_not_taken (d : Byte) (s : State) : branch false d s = .next s := rfl

/-- Taken, one cycle and the page penalty are ticked before PC moves (R210). -/
theorem branch_taken (d : Byte) (s : State) :
    branch true d s = .next ((s.tick (1 + (pageCrossed s.pc (branchTarget s.pc d)).toNat)).setPC
      (branchTarget s.pc d)) := by
  rw [branch, if_pos rfl, pagePenalty_eq, State.tick_tick]

/-- The taken branch in integers: the signed sum modulo 65,536, and 1 cycle on the next instruction's page, else 2. -/
theorem branch_taken_of_target {d : Byte} {s : State} {target : Nat}
    (h : target = ((s.pc.toNat + d.toInt) % 65536).toNat) :
    branch true d s = .next { s with
      pc := BitVec.ofNat 16 target, cyc := s.cyc + if target / 256 = s.pc.toNat / 256 then 1 else 2 } := by
  have htarget : branchTarget s.pc d = BitVec.ofNat 16 target := by rw [branchTarget_eq_ofNat, h]
  have hmod : target % 2 ^ 16 = target := by omega
  rw [branch_taken, htarget, pageCrossed_eq_decide, BitVec.toNat_ofNat, hmod]
  by_cases hpage : target / 256 = s.pc.toNat / 256
  · rw [if_pos hpage, decide_eq_false (not_not_intro hpage)]
    rfl
  · rw [if_neg hpage, decide_eq_true hpage]
    rfl

/-- Settles O48: the branch's flag decides between the two outcomes of `branch`; the bytes are read off the eight
constructors. -/
theorem branchesTestOneFlag : Obligations.BranchesTestOneFlag := by
  intro i op d s hform taken offset target cost
  have hcondition : branchTaken op s = taken := by cases op <;> rfl
  have hoffset : d.toInt = offset := byte_toInt_eq_ite d
  have htarget : target = ((s.pc.toNat + d.toInt) % 65536).toNat := by rw [hoffset]
  rw [exec_of_form_branch hform, hcondition]
  refine ⟨fun htaken => ?_, fun htaken => ?_, ?_⟩
  · rw [htaken, branch_not_taken]
  · rw [htaken, branch_taken_of_target htarget]
  · rw [encode_of_form_branch hform]
    cases i <;> cases hform <;> rfl

end Machine
end Sys2Proof
end

section
/-! SUPPORT. What every transition of the machine keeps, from what each operation keeps: the lines, the policy, the
parameters, the region map, the canonical memory and the marks (10_state.md R21 to R25, 60_exceptions.md R233). -/

namespace Sys2Proof.Machine

theorem step_keeps (s : State) : KeepsAll s (step s) := by
  unfold step
  split
  · exact Keeps.refl s
  · exact seq_keeps (pollInterrupts_keeps s) fun t => bindVal_keeps (fetchInstr_keeps t) fun i u => exec_keeps i u

theorem engineReset_keeps (s : State) : KeepsAll s (engineReset s) :=
  Leaves.of_keeps ((Keeps.tick 5 s).trans (Keeps.setI true _))
    (bindVal_keeps (read16_keeps _ _) fun target t => Keeps.setPC target t)

/-- The state the host finds is the next state or what the error left, and `Leaves` speaks of both. -/
theorem Leaves.of_stateAfter {P : State → Prop} {r : Result State} {t : State} (hr : Leaves id P r)
    (h : stateAfter r = some t) : P t := by
  cases r with
  | next u => cases h; exact hr
  | fault f => cases h; exact hr
  | refused f => cases h

/-- Settles O59: a step and a `Reset()` are sequences of operations that each keep all of it. -/
theorem engineLeavesTheLinesAlone : Obligations.EngineLeavesTheLinesAlone := by
  intro s t h
  have hkeeps : Keeps s t := by
    rcases h with hstep | hreset
    · exact (step_keeps s).of_stateAfter hstep
    · exact (engineReset_keeps s).of_stateAfter hreset
  exact ⟨hkeeps.outside, hkeeps.nmi, hkeeps.faultMark, hkeeps.refusalMark⟩

/-- The host's one write to memory is a byte poked, which keeps the canonical form. -/
theorem applyHost_wf {act : HostAction} {s : State} (hm : Memory.wf s.mem = true) :
    Memory.wf (applyHost act s).mem = true := by
  cases act with
  | pokeMemory addr w => exact State.wf_poke hm addr w
  | writeFlag flag f => cases flag <;> exact hm
  | _ => exact hm

/-- Settles O60: a step and a `Reset()` by what they keep, a host action by its one write. -/
theorem memoryStaysCanonical : Obligations.MemoryStaysCanonical := by
  intro tr s t hm h
  cases tr with
  | step => exact ((step_keeps s).of_stateAfter h).wf hm
  | reset => exact ((engineReset_keeps s).of_stateAfter h).wf hm
  | host act => cases h; exact applyHost_wf hm

end Sys2Proof.Machine
end

section
/-! SUPPORT. Encoder and decoder are inverse to each other, and the decoder refuses nothing but missing bytes
(30_encoding.md R70 to R74, R78). -/

namespace Sys2Proof

open Machine

/-- The row of an instruction's opcode byte makes the instruction again of its operand bytes. Where the operand is a
word, its two halves meet again in `word`; every other case computes. -/
theorem decodeBytes_operandBytes (i : Instr) :
    decodeBytes i.opcode (i.form.operandBytes.getD 0 0) (i.form.operandBytes.getD 1 0) = i := by
  cases i <;> try rfl
  all_goals exact congrArg _ (word_hiByte_loByte _)

/-- Operand bytes joined to a word and cut again, low byte first (R71). -/
theorem bytes_word (b1 b2 : Byte) : [loByte (word b2 b1), hiByte (word b2 b1)] = [b1, b2] := by
  rw [loByte_word, hiByte_word]

/-- The encoding of what the row of an opcode byte makes: that byte, and as many operand bytes as its length asks. -/
theorem encode_decodeBytes (op b1 b2 : Byte) :
    encode (decodeBytes op b1 b2) = op :: [b1, b2].take (lengthOf op - 1) := by
  induction op using byte_cases with
  | h k hk =>
    interval_cases k <;> try rfl
    all_goals exact congrArg (List.cons _) (bytes_word b1 b2)

theorem Mode.length_cases (mode : Mode) : mode.length = 1 ∨ mode.length = 2 ∨ mode.length = 3 := by
  cases mode <;> simp [Mode.length]

theorem lengthOf_cases (op : Byte) : lengthOf op = 1 ∨ lengthOf op = 2 ∨ lengthOf op = 3 := by
  unfold lengthOf
  split
  · exact Mode.length_cases _
  · exact .inl rfl

/-- Settles O1: the length of the opcode byte says how many operand bytes are read, and they are the instruction's. -/
theorem decodeInvertsEncode : Obligations.DecodeInvertsEncode := by
  intro i rest
  have hlen := length_encode i
  have hrow := decodeBytes_operandBytes i
  rw [encode] at hlen ⊢
  rw [List.cons_append, decode_cons, ← hlen]
  match hbytes : i.form.operandBytes with
  | [] => simpa [hbytes] using hrow
  | [b1] => simpa [hbytes] using hrow
  | [b1, b2] => simpa [hbytes] using hrow
  | _ :: _ :: _ :: _ =>
    have hle := lengthOf_cases i.opcode
    simp only [hbytes, List.length_cons] at hlen
    omega

/-- What the decoder answers on bytes long enough for their opcode byte, and that it asks for more where they are
not. -/
theorem decode_cons_cases (op : Byte) (bytes : List Byte) :
    (bytes.length + 1 < lengthOf op ∧ decode (op :: bytes) = .missingOperand op) ∨
    ∃ b1 b2 rest, bytes = [b1, b2].take (lengthOf op - 1) ++ rest ∧
      decode (op :: bytes) = .ok (decodeBytes op b1 b2) rest := by
  rw [decode_cons]
  rcases lengthOf_cases op with h | h | h
  · right
    refine ⟨0, 0, bytes, ?_⟩
    simp [h]
  · cases bytes with
    | nil => left; simp [h]
    | cons b1 rest => right; refine ⟨b1, 0, rest, ?_⟩; simp [h]
  · match bytes with
    | [] => left; simp [h]
    | [b1] => left; simp [h]
    | b1 :: b2 :: rest => right; refine ⟨b1, b2, rest, ?_⟩; simp [h]

/-- Settles O2: on too few bytes the decoder names the opcode; on enough its answer encodes to the bytes it took. -/
theorem encodeInvertsDecode : Obligations.EncodeInvertsDecode := by
  intro bytes
  cases bytes with
  | nil =>
    refine ⟨fun i rest h => (nomatch h), ⟨fun _ => rfl, fun _ => rfl⟩, fun opcode => ⟨fun h => (nomatch h), ?_⟩⟩
    rintro ⟨h, -⟩
    cases h
  | cons op bytes =>
    rcases decode_cons_cases op bytes with ⟨hshort, h⟩ | ⟨b1, b2, rest, hbytes, h⟩
    · simp [h, hshort]
    · have hlong : ¬ bytes.length + 1 < lengthOf op := by
        have hle := lengthOf_cases op
        rw [hbytes, List.length_append, List.length_take]
        simp only [List.length_cons, List.length_nil]
        omega
      have hencode : encode (decodeBytes op b1 b2) ++ rest = op :: bytes := by
        rw [encode_decodeBytes, List.cons_append, ← hbytes]
      rw [h]
      refine ⟨fun i rest' h' => ?_, by simp, fun opcode => ?_⟩
      · cases h'
        exact hencode
      · simp only [List.head?_cons, List.length_cons, reduceCtorEq, false_iff]
        rintro ⟨hop, hlt⟩
        cases hop
        exact hlong hlt

/-- Settles O5: the decoder computes on words written out byte by byte. -/
theorem sampleWordsDecode : Obligations.SampleWordsDecode :=
  ⟨rfl, rfl, rfl, rfl, rfl, rfl, rfl, rfl, rfl, rfl, rfl, rfl, rfl, rfl, rfl⟩

end Sys2Proof
end

section
/-! SUPPORT. What every operation adds to CYC, wherever its accesses land: each access that answers ticks once, and a
step is at most an interrupt response and one instruction (10_state.md R20, 70_reset_and_hazards.md R280 to R283). -/

namespace Sys2Proof.Machine

/-! ## Bounds on the growth of CYC -/

/-- From `s` to `t` CYC has grown by `lo` to `hi` cycles, modulo 2^64 (log 14). -/
def Adds (lo hi : Nat) (s t : State) : Prop := ∃ k, lo ≤ k ∧ k ≤ hi ∧ t.cyc = s.cyc + BitVec.ofNat 64 k

theorem Adds.tick (k : Nat) (s : State) : Adds k k s (s.tick k) := ⟨k, le_rfl, le_rfl, rfl⟩

theorem Adds.of_cyc_eq {s t : State} (h : t.cyc = s.cyc) : Adds 0 0 s t :=
  ⟨0, le_rfl, le_rfl, by rw [h, BitVec.add_zero]⟩

theorem Adds.trans {a b c d : Nat} {s t u : State} (h : Adds a b s t) (h' : Adds c d t u) :
    Adds (a + c) (b + d) s u := by
  obtain ⟨j, hja, hjb, hj⟩ := h
  obtain ⟨k, hkc, hkd, hk⟩ := h'
  exact ⟨j + k, by omega, by omega, by rw [hk, hj, BitVec.ofNat_add, BitVec.add_assoc]⟩

theorem Adds.mono {a b c d : Nat} {s t : State} (h : Adds a b s t) (hlo : c ≤ a) (hhi : b ≤ d) : Adds c d s t := by
  obtain ⟨k, hka, hkb, hk⟩ := h
  exact ⟨k, by omega, by omega, hk⟩

/-- If the statement answers, CYC has grown by `lo` to `hi`. -/
def Costs {α : Type} (lo hi : Nat) (get : α → State) (s : State) (r : Result α) : Prop :=
  ∀ p, r = .next p → Adds lo hi s (get p)

theorem Costs.next {α : Type} {lo hi : Nat} {get : α → State} {s : State} {p : α} (h : Adds lo hi s (get p)) :
    Costs lo hi get s (.next p) := by
  intro q hq
  cases hq
  exact h

theorem Costs.fault {α : Type} {lo hi : Nat} {get : α → State} {s : State} {f : Fault} :
    Costs lo hi get s (.fault f) :=
  fun _ h => nomatch h

theorem Costs.after {α : Type} {a b c d : Nat} {get : α → State} {s t : State} {r : Result α} (h : Adds a b s t)
    (hr : Costs c d get t r) : Costs (a + c) (b + d) get s r :=
  fun p hp => h.trans (hr p hp)

/-- The upper bound alone. -/
theorem Costs.upTo {α : Type} {lo hi : Nat} {get : α → State} {s : State} {r : Result α} (hr : Costs lo hi get s r) :
    Costs 0 hi get s r :=
  fun p hp => (hr p hp).mono (Nat.zero_le _) le_rfl

/-- After an update that leaves CYC alone, such as a register written. -/
theorem Costs.of_cyc_eq {α : Type} {c d : Nat} {get : α → State} {s t : State} {r : Result α} (h : t.cyc = s.cyc)
    (hr : Costs c d get t r) : Costs c d get s r := by
  simpa only [Nat.zero_add] using (Costs.after (Adds.of_cyc_eq h) hr)

theorem seq_costs {α : Type} {a b c d : Nat} {get : α → State} {s : State} {r : Result State}
    {k : State → Result α} (hr : Costs a b id s r) (hk : ∀ t, Costs c d get t (k t)) :
    Costs (a + c) (b + d) get s (seq r k) := by
  intro p hp
  obtain ⟨t, ht, hp⟩ := seq_eq_next.mp hp
  exact (hr t ht).trans (hk t p hp)

theorem bindVal_costs {α β : Type} {a b c d : Nat} {get : β → State} {s : State} {r : Result (α × State)}
    {k : α → State → Result β} (hr : Costs a b Prod.snd s r) (hk : ∀ v t, Costs c d get t (k v t)) :
    Costs (a + c) (b + d) get s (bindVal r k) := by
  intro p hp
  obtain ⟨v, t, ht, hp⟩ := bindVal_eq_next.mp hp
  exact (hr (v, t) ht).trans (hk v t p hp)

/-! ## The bus, the stack and the interrupts -/

theorem memRead_costs (addr : Word) (s : State) : Costs 1 1 Prod.snd s (memRead addr s) := by
  unfold memRead
  split
  · exact .next (Adds.tick 1 s)
  · exact .next (Adds.tick 1 s)
  · exact .fault
  · exact .fault
  · split
    · exact .next (Adds.tick 1 s)
    · exact .fault

theorem memWrite_costs (addr : Word) (w : Byte) (s : State) : Costs 1 1 id s (memWrite addr w s) := by
  unfold memWrite
  split
  · exact .next (Adds.tick 1 s)
  · exact .next (Adds.tick 1 s)
  · exact .fault
  · exact .fault
  · split
    · exact .next (Adds.tick 1 s)
    · exact .fault

theorem readPair_costs (lo hi : Word) (s : State) : Costs 2 2 Prod.snd s (readPair lo hi s) :=
  bindVal_costs (memRead_costs _ _) fun _ _ => bindVal_costs (c := 0) (d := 0) (memRead_costs _ _) fun _ _ =>
    .next (.of_cyc_eq rfl)

theorem read16_costs (addr : Word) (s : State) : Costs 2 2 Prod.snd s (read16 addr s) := readPair_costs _ _ s

theorem fetch8_costs (s : State) : Costs 1 1 Prod.snd s (fetch8 s) :=
  bindVal_costs (c := 0) (d := 0) (memRead_costs _ _) fun _ _ => .next (.of_cyc_eq rfl)

theorem push_costs (w : Byte) (s : State) : Costs 1 1 id s (push w s) :=
  seq_costs (c := 0) (d := 0) (memWrite_costs _ _ _) fun _ => .next (.of_cyc_eq rfl)

theorem pull_costs (s : State) : Costs 1 1 Prod.snd s (pull s) :=
  Costs.of_cyc_eq (t := s.setSP (s.sp + 1)) rfl (memRead_costs _ _)

theorem push16_costs (w : Word) (s : State) : Costs 2 2 id s (push16 w s) :=
  seq_costs (push_costs _ _) fun _ => push_costs _ _

theorem pull16_costs (s : State) : Costs 2 2 Prod.snd s (pull16 s) :=
  bindVal_costs (pull_costs _) fun _ _ => bindVal_costs (c := 0) (d := 0) (pull_costs _) fun _ _ =>
    .next (.of_cyc_eq rfl)

theorem State.trapFlags_cyc (forcedB : Bool) (s : State) : (s.trapFlags forcedB).cyc = s.cyc := by
  unfold State.trapFlags
  split <;> rfl

theorem trapEntry_costs (vector : Word) (forcedB : Bool) (s : State) : Costs 5 5 id s (trapEntry vector forcedB s) :=
  seq_costs (push16_costs _ _) fun _ => seq_costs (push_costs _ _) fun t =>
    Costs.of_cyc_eq (t.trapFlags_cyc forcedB)
      (bindVal_costs (c := 0) (d := 0) (read16_costs _ _) fun _ _ => .next (.of_cyc_eq rfl))

theorem trapReturn_costs (s : State) : Costs 3 3 id s (trapReturn s) :=
  bindVal_costs (pull_costs _) fun w t => Costs.of_cyc_eq (t := t.unpack w) rfl
    (bindVal_costs (c := 0) (d := 0) (pull16_costs _) fun _ _ => .next (.of_cyc_eq rfl))

/-- A poll answers nothing, or one response of 7 cycles (60_exceptions.md R236). -/
theorem pollInterrupts_costs (s : State) : Costs 0 7 id s (pollInterrupts s) := by
  have hresponse {t u : State} {vector : Word} (ht : t.cyc = s.cyc)
      (hu : trapEntry vector false (t.tick 2) = .next u) : Adds 0 7 s u :=
    (Costs.of_cyc_eq ht (Costs.after (Adds.tick 2 t) (trapEntry_costs vector false _)) u hu).mono (by omega) le_rfl
  intro t h
  unfold pollInterrupts at h
  split at h
  · exact hresponse (t := s.clearNmi) rfl h
  · split at h
    · exact hresponse rfl h
    · cases h
      exact (Adds.of_cyc_eq rfl).mono le_rfl (by omega)

/-! ## The instructions -/

/-- The most a mode costs beyond its operand bytes (41_addressing_modes.md R126). -/
def modeMaxCost : AddrMode → Nat
  | .abx _ => 1
  | .aby _ => 1
  | .ind _ => 2
  | .izx _ => 2
  | .izy _ => 3
  | _ => 0

/-- The most a pair costs once its bytes are fetched and its internal cycles charged. -/
def formMaxCost : Form → Nat
  | .read _ (.imm _) => 0
  | .read _ (.mem m) => modeMaxCost m + 1
  | .store _ m => modeMaxCost m + 1
  | .modify _ m => modeMaxCost m + 2
  | .modifyAcc _ => 0
  | .branch _ _ => 2
  | .jump m => modeMaxCost m
  | .call _ => 2
  | .implied .pha => 1
  | .implied .php => 1
  | .implied .pla => 1
  | .implied .plp => 1
  | .implied .rts => 2
  | .implied .rti => 3
  | .implied .brk => 5
  | .implied _ => 0
  | .unassigned _ => 1

theorem pagePenalty_adds (base ea : Word) (s : State) : Adds 0 1 s (pagePenalty base ea s) := by
  rw [pagePenalty_eq]
  exact (Adds.tick _ s).mono (Nat.zero_le _) (Bool.toNat_le _)

theorem resolve_costs (m : AddrMode) (s : State) : Costs 0 (modeMaxCost m) Prod.snd s (resolve m s) := by
  cases m with
  | abx w => exact .next (pagePenalty_adds _ _ s)
  | aby w => exact .next (pagePenalty_adds _ _ s)
  | ind w => exact (readPair_costs _ _ s).upTo
  | izx b => exact (readPair_costs _ _ s).upTo
  | izy b =>
    rw [resolve]
    refine bindVal_costs (c := 0) (d := 1) (readPair_costs _ _ s).upTo fun base t => .next ?_
    exact pagePenalty_adds base (base + zext16 t.y) t
  | _ => exact .next (.of_cyc_eq rfl)

theorem readEffect_cyc (op : ReadOp) (w : Byte) (s : State) : (readEffect op w s).cyc = s.cyc := by
  cases op with
  | adc => simp only [readEffect, State.adc]; split <;> rfl
  | sbc => simp only [readEffect, State.sbc]; split <;> rfl
  | _ => rfl

theorem modifyEffect_cyc (op : ModifyOp) (w : Byte) (s : State) : (modifyEffect op w s).2.cyc = s.cyc := by
  cases op <;> rfl

theorem branch_costs (taken : Bool) (d : Byte) (s : State) : Costs 0 2 id s (branch taken d s) := by
  cases taken with
  | false => exact .next ((Adds.of_cyc_eq rfl).mono le_rfl (Nat.zero_le _))
  | true => exact .next (((Adds.tick 1 s).trans (pagePenalty_adds _ _ _)).mono (Nat.zero_le _) le_rfl)

theorem unknownOpcode_costs (opcode : Byte) (s : State) : Costs 0 1 id s (unknownOpcode opcode s) := by
  unfold unknownOpcode
  split
  · exact .fault
  · exact .next ((Adds.tick 1 s).mono (Nat.zero_le _) le_rfl)
  · exact fun _ h => nomatch h

theorem impliedMeaning_costs (op : ImpliedOp) (s : State) :
    Costs 0 (formMaxCost (.implied op)) id s (impliedMeaning op s) := by
  cases op with
  | pha => exact (push_costs _ s).upTo
  | php => exact (push_costs _ s).upTo
  | pla =>
    rw [impliedMeaning, execPlaImp]
    exact bindVal_costs (c := 0) (d := 0) (pull_costs s).upTo fun _ _ => .next (.of_cyc_eq rfl)
  | plp =>
    rw [impliedMeaning, execPlpImp]
    exact bindVal_costs (c := 0) (d := 0) (pull_costs s).upTo fun _ _ => .next (.of_cyc_eq rfl)
  | rts =>
    rw [impliedMeaning, execRtsImp]
    exact bindVal_costs (c := 0) (d := 0) (pull16_costs s).upTo fun _ _ => .next (.of_cyc_eq rfl)
  | brk => exact (Costs.of_cyc_eq (t := s.setPC (s.pc + 1)) rfl (trapEntry_costs _ _ _)).upTo
  | rti => exact (trapReturn_costs s).upTo
  | _ => exact .next (.of_cyc_eq rfl)

/-- What an instruction adds after its fetch, by its pair. -/
theorem exec_costs (i : Instr) (s : State) : Costs 0 (formMaxCost i.form) id s (exec i s) := by
  rw [exec_eq_runForm]
  cases i.form with
  | read op src =>
    have heffect (w : Byte) (t : State) : Costs 0 0 id t (.next (readEffect op w t)) :=
      .next (.of_cyc_eq (readEffect_cyc op w t))
    cases src with
    | imm w => exact heffect w s
    | mem m =>
      rw [runForm, readWith, loadOperand]
      exact bindVal_costs (bindVal_costs (resolve_costs m s) fun ea t => (memRead_costs ea t).upTo) heffect
  | store op m =>
    rw [runForm, storeOperand]
    exact bindVal_costs (resolve_costs m s) fun ea t => (memWrite_costs ea _ t).upTo
  | modify op m =>
    rw [runForm, modifyOperand]
    refine bindVal_costs (resolve_costs m s) fun ea t => Costs.upTo (lo := 2) ?_
    exact bindVal_costs (memRead_costs ea t) fun old u =>
      Costs.of_cyc_eq (modifyEffect_cyc op old u) (memWrite_costs _ _ _)
  | modifyAcc op => exact .next (.of_cyc_eq (modifyEffect_cyc op s.a s))
  | branch op d => exact branch_costs _ d s
  | jump m => exact bindVal_costs (c := 0) (d := 0) (resolve_costs m s) fun _ _ => .next (.of_cyc_eq rfl)
  | call w =>
    rw [runForm, call]
    exact seq_costs (c := 0) (d := 0) (push16_costs _ s).upTo fun _ => .next (.of_cyc_eq rfl)
  | implied op => exact impliedMeaning_costs op s
  | unassigned opcode => exact unknownOpcode_costs opcode s

/-! ## The fetch -/

theorem fetchOperand_costs (mode : Mode) (s : State) :
    Costs (mode.length - 1) (mode.length - 1) Prod.snd s (fetchOperand mode s) := by
  have hone : Costs 1 1 Prod.snd s (bindVal (fetch8 s) fun b1 t => .next ((b1, (0 : Byte)), t)) :=
    bindVal_costs (c := 0) (d := 0) (fetch8_costs s) fun _ _ => .next (.of_cyc_eq rfl)
  have htwo : Costs 2 2 Prod.snd s
      (bindVal (fetch8 s) fun b1 t => bindVal (fetch8 t) fun b2 u => .next ((b1, b2), u)) :=
    bindVal_costs (fetch8_costs s) fun _ t => bindVal_costs (c := 0) (d := 0) (fetch8_costs t) fun _ _ =>
      .next (.of_cyc_eq rfl)
  have himm : Costs 1 1 Prod.snd s (bindVal (fetchImmediate s) fun b1 t => .next ((b1, (0 : Byte)), t)) :=
    bindVal_costs (c := 0) (d := 0) (Costs.of_cyc_eq (t := s.setPC (s.pc + 1)) rfl (memRead_costs _ _)) fun _ _ =>
      .next (.of_cyc_eq rfl)
  cases mode with
  | imp => exact .next (.of_cyc_eq rfl)
  | acc => exact .next (.of_cyc_eq rfl)
  | imm => exact himm
  | abs => exact htwo
  | abx => exact htwo
  | aby => exact htwo
  | ind => exact htwo
  | _ => exact hone

/-- The bytes of an instruction and its internal cycles, which an unassigned opcode has none of (R93 to R95, R98). -/
def fetchCost (cfg : Config) (i : Instr) : Nat :=
  (encode i).length + if i.mode = none then 0 else internalCycles cfg i.opcode

/-- Whatever stands behind the code, a fetch that answers costs a cycle for each byte and the internal cycles. -/
theorem fetchInstr_adds {s t : State} {i : Instr} (h : fetchInstr s = .next (i, t)) :
    Adds (fetchCost s.cfg i) (fetchCost s.cfg i) s t := by
  obtain ⟨op, u, hop, h⟩ := bindVal_eq_next.mp h
  have hu : Adds 1 1 s u := fetch8_costs s _ hop
  have hcfg : u.cfg = s.cfg := by
    have hkeeps := fetch8_keeps s
    rw [hop] at hkeeps
    exact hkeeps.outside.cfg
  have hfetch (b1 b2 : Byte) : fetchCost s.cfg (decodeBytes op b1 b2) =
      lengthOf op + if modeOf op = none then 0 else internalCycles s.cfg op := by
    rw [fetchCost, length_encode, ← modeOf_opcode, opcode_decodeBytes]
  cases hmode : modeOf op with
  | none =>
    simp only [hmode] at h
    cases h
    rw [hfetch, lengthOf, hmode]
    exact hu
  | some mode =>
    simp only [hmode] at h
    obtain ⟨bs, v, hbs, h⟩ := bindVal_eq_next.mp h
    cases h
    have hsum : fetchCost s.cfg (decodeBytes op bs.1 bs.2) = 1 + (internalCycles u.cfg op + (mode.length - 1)) := by
      have hlen := mode.length_cases
      rw [hfetch, lengthOf, hmode, hcfg]
      simp only [reduceCtorEq, if_false]
      omega
    rw [hsum]
    exact hu.trans ((Adds.tick _ u).trans (fetchOperand_costs mode _ _ hbs))

/-! ## The default table and the budget of one instruction -/

theorem internalCycles_default {cfg : Config} (h : cfg.internalOverride = []) (opcode : Byte) :
    internalCycles cfg opcode = defaultInternalCycles opcode := by
  rw [internalCycles, h, List.lookup_nil]

/-- The default table of R281, by class and mode. -/
def classInternalCycles : Form → Nat
  | .read _ (.imm _) => 0
  | .read _ (.mem (.zpx _)) | .read _ (.mem (.zpy _)) | .read _ (.mem (.izx _)) => 1
  | .read _ (.mem _) => 0
  | .store _ (.zpx _) | .store _ (.zpy _) | .store _ (.izx _) => 1
  | .store _ _ => 0
  | .modifyAcc _ => 1
  | .modify _ (.zpx _) => 2
  | .modify _ _ => 1
  | .branch _ _ => 0
  | .jump _ => 0
  | .call _ => 1
  | .implied .pla | .implied .plp | .implied .rti => 2
  | .implied .rts => 3
  | .implied _ => 1
  | .unassigned _ => 0

theorem defaultInternalCycles_opcode (i : Instr) : defaultInternalCycles i.opcode = classInternalCycles i.form := by
  cases i <;> dsimp only [Instr.opcode] <;> rfl

/-- No instruction of the table costs more than 7 cycles, an interrupt's entry apart. -/
theorem instr_budget {cfg : Config} (h : cfg.internalOverride = []) (i : Instr) :
    fetchCost cfg i + formMaxCost i.form ≤ 7 := by
  rw [fetchCost, internalCycles_default h, defaultInternalCycles_opcode]
  cases i <;> exact Nat.le_of_ble_eq_true rfl

theorem fetchCost_pos (cfg : Config) (i : Instr) : 1 ≤ fetchCost cfg i := by
  rw [fetchCost, encode, List.length_cons]
  omega

/-- With the default table a step that answers adds 1 to 14 cycles: at most 7 for a response, at most 7 for the
instruction. -/
theorem step_adds {s t : State} (hover : s.cfg.internalOverride = []) (hline : s.resetLine = false)
    (h : step s = .next t) : Adds 1 14 s t := by
  rw [step, hline, if_neg Bool.false_ne_true] at h
  obtain ⟨u, hpoll, h⟩ := seq_eq_next.mp h
  obtain ⟨i, v, hfetch, hexec⟩ := bindVal_eq_next.mp h
  have hcfg : u.cfg = s.cfg := by
    have hkeeps := pollInterrupts_keeps s
    rw [hpoll] at hkeeps
    exact hkeeps.outside.cfg
  have hbudget := instr_budget (hcfg ▸ hover) i
  have hpos := fetchCost_pos u.cfg i
  have hresponse : Adds 0 7 s u := pollInterrupts_costs s u hpoll
  have hinstr := (fetchInstr_adds hfetch).trans (exec_costs i v t hexec)
  exact (hresponse.trans hinstr).mono (by omega) (by omega)

/-- Settles O12: the default table is `classInternalCycles` of the pair, an override is looked up first, and a step
adds what its poll, its fetch and its instruction add. -/
theorem stepCostsOneToFourteenCycles : Obligations.StepCostsOneToFourteenCycles := by
  refine ⟨fun cfg i hover _ => ?_, fun cfg opcode k hover other => ?_, fun s t hover hline h =>
    step_adds hover hline h⟩
  · rw [internalCycles_default hover, defaultInternalCycles_opcode]
    cases i <;> rfl
  · rw [internalCycles, hover, internalCycles_default rfl]
    by_cases hother : other = opcode
    · simp [hother, List.lookup]
    · have hne : (other.toNat == opcode.toNat) = false := beq_false_of_ne fun h => hother (BitVec.eq_of_toNat_eq h)
      rw [if_neg hother]
      simp only [List.lookup, hne]

end Sys2Proof.Machine
end

section
/-! SUPPORT. What a step adds around `exec`: the poll, the fetch of the opcode byte and of its operand bytes, and where
each of them stops it (40_step_and_dispatch.md R90 to R101, 41_addressing_modes.md R111, R114). -/

namespace Sys2Proof.Machine

/-! ## Before the fetch -/

theorem step_of_poll {s t : State} (hline : s.resetLine = false) (hpoll : pollInterrupts s = .next t) :
    step s = bindVal (fetchInstr t) exec := by
  rw [step, hline, if_neg Bool.false_ne_true, hpoll, seq_next]

theorem State.quiet_iff {s : State} :
    s.quiet = true ↔ s.resetLine = false ∧ s.nmiPending = false ∧ (s.irqLine = false ∨ s.i = true) := by
  simp [State.quiet, and_assoc]

theorem pollInterrupts_of_no_irq {s : State} (hnmi : s.nmiPending = false) (hirq : s.irqLine = false ∨ s.i = true) :
    pollInterrupts s = .next s := by
  rcases hirq with hline | hi
  · simp [pollInterrupts, hnmi, hline]
  · exact pollInterrupts_of_masked hnmi hi

theorem pollInterrupts_of_quiet {s : State} (h : s.quiet = true) : pollInterrupts s = .next s :=
  pollInterrupts_of_no_irq (State.quiet_iff.mp h).2.1 (State.quiet_iff.mp h).2.2

theorem step_of_quiet {s : State} (h : s.quiet = true) : step s = bindVal (fetchInstr s) exec :=
  step_of_poll (State.quiet_iff.mp h).1 (pollInterrupts_of_quiet h)

/-- Settles O6: a step is the poll, then the fetch, which on readable code yields the decoded instruction. -/
theorem stepRunsDecodedInstruction : Obligations.StepRunsDecodedInstruction := by
  intro s t i rest hline hpoll hdecode hreadable
  constructor
  · rw [step_of_poll hline hpoll, fetchInstr_ready hdecode hreadable, bindVal_next]
  · intro hquiet
    cases (pollInterrupts_of_quiet hquiet).symm.trans hpoll
    rfl

/-! ## Unassigned opcodes -/

theorem exec_of_form_unassigned {i : Instr} {opcode : Byte} (h : i.form = .unassigned opcode) (s : State) :
    exec i s = unknownOpcode opcode s := by
  rw [exec_eq_runForm, h, runForm]

/-- Settles O8: all 105 are `UnknownOpcode`, which is one case for each policy. -/
theorem unassignedOpcodeByPolicy : Obligations.UnassignedOpcodeByPolicy := by
  intro i opcode s hform
  rw [exec_of_form_unassigned hform]
  exact ⟨unknownOpcode_nop, unknownOpcode_throw, unknownOpcode_emulate⟩

/-- A read of code that answers: PC moves after it (R111). -/
theorem fetch8_of_memRead {t u : State} {w : Byte} (h : memRead t.pc t = .next (w, u)) :
    fetch8 t = .next (w, u.setPC (t.pc + 1)) := by
  have hpc : u.pc = t.pc := by rw [memRead_readsOnly h]
  rw [fetch8, h, bindVal_next, hpc]

/-- An unassigned opcode byte is the whole fetch, with no internal cycles (R98). -/
theorem fetchInstr_unassigned {t u : State} {opcode : Byte} (h : memRead t.pc t = .next (opcode, u))
    (hop : opcode ∈ unassignedOpcodes) :
    fetchInstr t = .next (decodeBytes opcode 0 0, u.setPC (t.pc + 1)) := by
  rw [fetchInstr, fetch8_of_memRead h, bindVal_next, (decodeBytes_unassigned opcode hop).1]

/-- Settles O9: the fetch of the byte moves PC past it, and then the policy decides. -/
theorem stepFollowsThePolicy : Obligations.StepFollowsThePolicy := by
  intro s t u opcode hline hpoll hread hop
  have hpolicy : (u.setPC (t.pc + 1)).policy = t.policy := by rw [memRead_readsOnly hread]; rfl
  have haddr : (u.setPC (t.pc + 1)).pc - 1 = t.pc := BitVec.add_sub_cancel t.pc 1
  rw [step_of_poll hline hpoll, fetchInstr_unassigned hread hop, bindVal_next,
    exec_of_form_unassigned (decodeBytes_unassigned opcode hop).2, ← hpolicy]
  refine ⟨fun h => ?_, fun h => unknownOpcode_nop h, fun h => ?_⟩
  · rw [unknownOpcode_throw h, haddr]
    rfl
  · rw [unknownOpcode_emulate h, haddr]
    rfl

/-! ## Refused fetches -/

/-- A refused first operand byte leaves PC at it, or past it where the byte is immediate (R111, R114). -/
theorem fetchOperand_first_refused {mode : Mode} {s : State} (hlen : 2 ≤ mode.length)
    (h : s.refusesRead s.pc = true) :
    fetchOperand mode s = .fault (.memoryFault s.pc { s with
      pc := if mode = .imm then s.pc + 1 else s.pc, faultMark := true }) := by
  have himm : fetchImmediate s = .fault (.memoryFault s.pc (s.setPC (s.pc + 1)).markFault) := memRead_refused h
  have hfetch : fetch8 s = .fault (.memoryFault s.pc s.markFault) := by rw [fetch8, memRead_refused h, bindVal_fault]
  cases mode with
  | imp => exact absurd hlen (by decide)
  | acc => exact absurd hlen (by decide)
  | imm => simp only [fetchOperand, Mode.length, himm, bindVal_fault]; rfl
  | _ => simp only [fetchOperand, Mode.length, hfetch, bindVal_fault]; rfl

/-- A refused second operand byte leaves PC at it, one tick after the first. -/
theorem fetchOperand_second_refused {mode : Mode} {s : State} (hlen : mode.length = 3)
    (hfirst : s.readable s.pc = true) (h : s.refusesRead (s.pc + 1) = true) :
    fetchOperand mode s = .fault (.memoryFault (s.pc + 1) ((s.tick 1).setPC (s.pc + 1)).markFault) := by
  have hsecond : fetch8 ((s.tick 1).setPC (s.pc + 1)) =
      .fault (.memoryFault (s.pc + 1) ((s.tick 1).setPC (s.pc + 1)).markFault) := by
    rw [fetch8, State.setPC_pc, memRead_refused (by simpa using h), bindVal_fault]
  cases mode with
  | abs => simp only [fetchOperand, Mode.length, fetch8_readable hfirst, bindVal_next, hsecond, bindVal_fault]
  | abx => simp only [fetchOperand, Mode.length, fetch8_readable hfirst, bindVal_next, hsecond, bindVal_fault]
  | aby => simp only [fetchOperand, Mode.length, fetch8_readable hfirst, bindVal_next, hsecond, bindVal_fault]
  | ind => simp only [fetchOperand, Mode.length, fetch8_readable hfirst, bindVal_next, hsecond, bindVal_fault]
  | _ => exact absurd hlen (by decide)

/-- After the opcode byte and its internal cycles, a fetch is the fetch of the operand bytes (R93 to R95). -/
theorem fetchInstr_of_mode {s : State} {mode : Mode} (hread : s.readable s.pc = true)
    (hmode : modeOf (s.peek s.pc) = some mode) :
    fetchInstr s = bindVal
      (fetchOperand mode ((s.tick (1 + internalCycles s.cfg (s.peek s.pc))).setPC (s.pc + 1))) fun bs t =>
      .next (decodeBytes (s.peek s.pc) bs.1 bs.2, t) := by
  rw [fetchInstr, fetch8_readable hread, bindVal_next, hmode, ← State.tick_tick]
  rfl

/-- Settles O11: the fetch stops at the first byte refused, and a step that cannot fetch stops there. -/
theorem refusedFetchStopsTheStep : Obligations.RefusedFetchStopsTheStep := by
  intro s hquiet
  rw [step_of_quiet hquiet]
  refine ⟨fun hrefused => ?_, fun mode hread hmode hlen hrefused => ?_,
    fun mode hread hmode hlen hread' hrefused => ?_⟩
  · rw [fetchInstr, fetch8, memRead_refused hrefused]
    rfl
  · rw [fetchInstr_of_mode hread hmode, fetchOperand_first_refused hlen (by simpa using hrefused)]
    simp only [bindVal_fault, State.setPC_pc, BitVec.add_assoc]
    rfl
  · have hnext : s.pc + 1 + 1 = s.pc + 2 := BitVec.add_assoc s.pc 1 1
    rw [fetchInstr_of_mode hread hmode, fetchOperand_second_refused hlen (by simpa using hread')
      (by simpa [BitVec.add_assoc] using hrefused), State.setPC_pc, hnext]
    simp only [bindVal_fault, State.tick, State.setPC, State.markFault, BitVec.add_assoc, ← BitVec.ofNat_add]
    rw [show 1 + internalCycles s.cfg (s.peek s.pc) + 1 = 2 + internalCycles s.cfg (s.peek s.pc) by omega]

end Sys2Proof.Machine
end

section
/-! SUPPORT. `Run(n)` as whole steps: how a run ends, and after how many of them (40_step_and_dispatch.md R97, R102). -/

namespace Sys2Proof.Machine

/-- How a loop that ends has ended after `k` whole steps: its total was enough, or the next step stopped it. -/
theorem runFrom_eq_some {fuel total n : Nat} {s : State} {r : Result (Nat × State)}
    (h : runFrom fuel total n s = some r) :
    ∃ k u, afterSteps k s = some u ∧
      ((k ≤ fuel ∧ ∃ total', r = .next (total', u) ∧ n ≤ total' ∧
          u.cyc + BitVec.ofNat 64 total = s.cyc + BitVec.ofNat 64 total') ∨
        (k < fuel ∧ ∃ f, r = .fault f ∧ step u = .fault f) ∨
        (k < fuel ∧ ∃ f, r = .refused f ∧ step u = .refused f)) := by
  induction fuel generalizing total s with
  | zero =>
    rw [runFrom] at h
    split at h
    · cases h
      exact ⟨0, s, rfl, .inl ⟨le_rfl, total, rfl, ‹_›, rfl⟩⟩
    · cases h
  | succ fuel ih =>
    rw [runFrom] at h
    split at h
    · cases h
      exact ⟨0, s, rfl, .inl ⟨Nat.zero_le _, total, rfl, ‹_›, rfl⟩⟩
    cases hstep : step s with
    | next t =>
      rw [hstep] at h
      obtain ⟨k, u, hk, hend⟩ := ih h
      refine ⟨k + 1, u, (afterSteps_next k hstep).trans hk, ?_⟩
      rcases hend with ⟨hle, total', hr, hn, hcyc⟩ | ⟨hlt, hfault⟩ | ⟨hlt, hrefused⟩
      · refine .inl ⟨by omega, total', hr, hn, ?_⟩
        rw [BitVec.ofNat_add, BitVec.ofNat_toNat, BitVec.setWidth_eq] at hcyc
        bv_omega
      · exact .inr (.inl ⟨by omega, hfault⟩)
      · exact .inr (.inr ⟨by omega, hrefused⟩)
    | fault f =>
      rw [hstep] at h
      cases h
      exact ⟨0, s, rfl, .inr (.inl ⟨Nat.succ_pos _, f, rfl, hstep⟩)⟩
    | refused f =>
      rw [hstep] at h
      cases h
      exact ⟨0, s, rfl, .inr (.inr ⟨Nat.succ_pos _, f, rfl, hstep⟩)⟩

theorem run_zero_cycles (fuel : Nat) (s : State) : run fuel 0 s = some (.next (0, s)) := by
  unfold run runFrom
  rw [if_pos le_rfl]

theorem run_no_steps {n : Nat} (hn : 0 < n) (s : State) : run 0 n s = none := by
  rw [run, runFrom, if_neg (by omega)]

/-- After a step of `k` cycles the run goes on to what is still missing, and `k` is added to its total. -/
theorem run_next {fuel n : Nat} {s t : State} (hn : 0 < n) (h : step s = .next t) :
    run (fuel + 1) n s = carryTotal (t.cyc - s.cyc).toNat (run fuel (n - (t.cyc - s.cyc).toNat) t) := by
  rw [run, runFrom_next hn h, Nat.zero_add, runFrom_eq_carryTotal, run]

/-- Under the reset line a step adds no cycle, so no number of steps suffices (R102). -/
theorem run_resetLine {fuel n : Nat} {s : State} (hline : s.resetLine = true) (hn : 0 < n) : run fuel n s = none := by
  induction fuel with
  | zero => exact run_no_steps hn s
  | succ fuel ih =>
    have hzero : (s.cyc - s.cyc).toNat = 0 := by rw [BitVec.sub_self]; rfl
    rw [run_next hn (step_resetLine hline), hzero, Nat.sub_zero, ih, carryTotal]

/-- Settles O13: one step of the loop, the three ways a loop ends, and no progress under the reset line. -/
theorem runReturnsAtLeastWhatWasAsked : Obligations.RunReturnsAtLeastWhatWasAsked := by
  refine ⟨run_zero_cycles, fun fuel n s hn => ?_, fun fuel n total s t h => ?_, fun fuel n s f h => ?_,
    fun fuel n s f h => ?_, fun fuel n s hline hn => run_resetLine hline hn⟩
  · refine ⟨run_no_steps hn s, fun t hstep => ?_, fun f hstep => runFrom_fault hn hstep,
      fun f hstep => runFrom_refused hn hstep⟩
    rw [run_next hn hstep]
    rfl
  · obtain ⟨k, u, hk, ⟨hle, total', hr, hn, hcyc⟩ | ⟨-, f, hr, -⟩ | ⟨-, f, hr, -⟩⟩ := runFrom_eq_some h
    · cases hr
      exact ⟨hn, by simpa using hcyc, k, hle, hk⟩
    · cases hr
    · cases hr
  · obtain ⟨k, u, hk, ⟨-, total', hr, -⟩ | ⟨hlt, f', hr, hstep⟩ | ⟨-, f', hr, -⟩⟩ := runFrom_eq_some h
    · cases hr
    · cases hr
      exact ⟨k, u, hlt, hk, hstep⟩
    · cases hr
  · obtain ⟨k, u, hk, ⟨-, total', hr, -⟩ | ⟨-, f', hr, -⟩ | ⟨hlt, f', hr, hstep⟩⟩ := runFrom_eq_some h
    · cases hr
    · cases hr
    · cases hr
      exact ⟨k, u, hlt, hk, hstep⟩

end Sys2Proof.Machine
end

section
/-! SUPPORT. The policy is carried along by every operation and read by none but `unknownOpcode` (10_state.md R25,
40_step_and_dispatch.md R98). -/

namespace Sys2Proof.Machine

def State.setPolicy (policy : Policy) (s : State) : State := { s with policy := policy }

/-- `withPolicy` for an operation that also yields a value. -/
def withPolicyVal {α : Type} (policy : Policy) (r : Result (α × State)) : Result (α × State) :=
  match r with
  | .next (a, t) => .next (a, t.setPolicy policy)
  | .fault (.memoryFault addr left) => .fault (.memoryFault addr (left.setPolicy policy))
  | .fault (.invalidOpcode addr opcode left) => .fault (.invalidOpcode addr opcode (left.setPolicy policy))
  | .refused f => .refused f

section
variable {p : Policy}

theorem seq_withPolicy {r : Result State} {k : State → Result State}
    (hk : ∀ t, k (t.setPolicy p) = withPolicy p (k t)) : seq (withPolicy p r) k = withPolicy p (seq r k) := by
  match r with
  | .next t => exact hk t
  | .fault (.memoryFault _ _) => rfl
  | .fault (.invalidOpcode _ _ _) => rfl
  | .refused _ => rfl

theorem bindVal_withPolicy {α : Type} {r : Result (α × State)} {k : α → State → Result State}
    (hk : ∀ a t, k a (t.setPolicy p) = withPolicy p (k a t)) :
    bindVal (withPolicyVal p r) k = withPolicy p (bindVal r k) := by
  match r with
  | .next (a, t) => exact hk a t
  | .fault (.memoryFault _ _) => rfl
  | .fault (.invalidOpcode _ _ _) => rfl
  | .refused _ => rfl

theorem bindVal_withPolicyVal {α β : Type} {r : Result (α × State)} {k : α → State → Result (β × State)}
    (hk : ∀ a t, k a (t.setPolicy p) = withPolicyVal p (k a t)) :
    bindVal (withPolicyVal p r) k = withPolicyVal p (bindVal r k) := by
  match r with
  | .next (a, t) => exact hk a t
  | .fault (.memoryFault _ _) => rfl
  | .fault (.invalidOpcode _ _ _) => rfl
  | .refused _ => rfl

/-! ## The bus, the stack and the interrupts -/

theorem memRead_setPolicy (addr : Word) (s : State) :
    memRead addr (s.setPolicy p) = withPolicyVal p (memRead addr s) := by
  have hkind : (s.setPolicy p).kindAt addr = s.kindAt addr := rfl
  have hlog : (s.setPolicy p).deviceLog = s.deviceLog := rfl
  rw [memRead, memRead, hkind, hlog]
  cases s.kindAt addr with
  | device => cases Config.deviceRead s.deviceLog addr <;> rfl
  | _ => rfl

theorem memWrite_setPolicy (addr : Word) (w : Byte) (s : State) :
    memWrite addr w (s.setPolicy p) = withPolicy p (memWrite addr w s) := by
  have hkind : (s.setPolicy p).kindAt addr = s.kindAt addr := rfl
  have hlog : (s.setPolicy p).deviceLog = s.deviceLog := rfl
  rw [memWrite, memWrite, hkind, hlog]
  cases s.kindAt addr with
  | device => cases Config.deviceWrite s.deviceLog addr w <;> rfl
  | _ => rfl

theorem readPair_setPolicy (lo hi : Word) (s : State) :
    readPair lo hi (s.setPolicy p) = withPolicyVal p (readPair lo hi s) := by
  rw [readPair, readPair, memRead_setPolicy]
  refine bindVal_withPolicyVal fun l t => ?_
  rw [memRead_setPolicy]
  exact bindVal_withPolicyVal fun _ _ => rfl

theorem push_setPolicy (w : Byte) (s : State) : push w (s.setPolicy p) = withPolicy p (push w s) := by
  have hsp : (s.setPolicy p).sp = s.sp := rfl
  rw [push, push, hsp, memWrite_setPolicy]
  exact seq_withPolicy fun _ => rfl

theorem pull_setPolicy (s : State) : pull (s.setPolicy p) = withPolicyVal p (pull s) :=
  memRead_setPolicy (stackAddr (s.sp + 1)) (s.setSP (s.sp + 1))

theorem push16_setPolicy (w : Word) (s : State) : push16 w (s.setPolicy p) = withPolicy p (push16 w s) := by
  rw [push16, push16, push_setPolicy]
  exact seq_withPolicy fun t => push_setPolicy _ t

theorem pull16_setPolicy (s : State) : pull16 (s.setPolicy p) = withPolicyVal p (pull16 s) := by
  rw [pull16, pull16, pull_setPolicy]
  refine bindVal_withPolicyVal fun lo t => ?_
  rw [pull_setPolicy]
  exact bindVal_withPolicyVal fun _ _ => rfl

theorem State.trapFlags_setPolicy (forcedB : Bool) (s : State) :
    (s.setPolicy p).trapFlags forcedB = (s.trapFlags forcedB).setPolicy p := by
  have hcfg : (s.setPolicy p).cfg = s.cfg := rfl
  rw [State.trapFlags, State.trapFlags, hcfg]
  split <;> rfl

theorem trapEntry_setPolicy (vector : Word) (forcedB : Bool) (s : State) :
    trapEntry vector forcedB (s.setPolicy p) = withPolicy p (trapEntry vector forcedB s) := by
  have hpc : (s.setPolicy p).pc = s.pc := rfl
  rw [trapEntry, trapEntry, hpc, push16_setPolicy]
  refine seq_withPolicy fun t => ?_
  have hstatus : (t.setPolicy p).statusByte forcedB = t.statusByte forcedB := rfl
  rw [hstatus, push_setPolicy]
  refine seq_withPolicy fun u => ?_
  rw [State.trapFlags_setPolicy, show read16 vector ((u.trapFlags forcedB).setPolicy p) = _ from
    readPair_setPolicy vector (vector + 1) _]
  exact bindVal_withPolicy fun _ _ => rfl

theorem trapReturn_setPolicy (s : State) : trapReturn (s.setPolicy p) = withPolicy p (trapReturn s) := by
  rw [trapReturn, trapReturn, pull_setPolicy]
  refine bindVal_withPolicy fun w t => ?_
  have hunpack : (t.setPolicy p).unpack w = (t.unpack w).setPolicy p := rfl
  rw [hunpack, pull16_setPolicy]
  exact bindVal_withPolicy fun _ _ => rfl

/-! ## The instructions -/

theorem pagePenalty_setPolicy (base ea : Word) (s : State) :
    pagePenalty base ea (s.setPolicy p) = (pagePenalty base ea s).setPolicy p := by
  rw [pagePenalty_eq, pagePenalty_eq]
  rfl

theorem resolve_setPolicy (m : AddrMode) (s : State) :
    resolve m (s.setPolicy p) = withPolicyVal p (resolve m s) := by
  have hx : (s.setPolicy p).x = s.x := rfl
  have hy : (s.setPolicy p).y = s.y := rfl
  cases m with
  | abx w => rw [resolve, resolve, hx, pagePenalty_setPolicy]; rfl
  | aby w => rw [resolve, resolve, hy, pagePenalty_setPolicy]; rfl
  | ind w => exact readPair_setPolicy _ _ s
  | izx b => exact readPair_setPolicy _ _ s
  | izy b =>
    rw [resolve, resolve, readZeroPagePointer, readZeroPagePointer, readPair_setPolicy]
    refine bindVal_withPolicyVal fun base t => ?_
    have hy : (t.setPolicy p).y = t.y := rfl
    rw [hy, pagePenalty_setPolicy]
    rfl
  | _ => rfl

theorem loadOperand_setPolicy (src : Source) (s : State) :
    loadOperand src (s.setPolicy p) = withPolicyVal p (loadOperand src s) := by
  cases src with
  | imm w => rfl
  | mem m =>
    rw [loadOperand, loadOperand, resolve_setPolicy]
    exact bindVal_withPolicyVal fun ea t => memRead_setPolicy ea t

theorem readEffect_setPolicy (op : ReadOp) (w : Byte) (s : State) :
    readEffect op w (s.setPolicy p) = (readEffect op w s).setPolicy p := by
  have hd : (s.setPolicy p).d = s.d := rfl
  cases op with
  | adc =>
    simp only [readEffect, State.adc, hd]
    split <;> rfl
  | sbc =>
    simp only [readEffect, State.sbc, hd]
    split <;> rfl
  | _ => rfl

theorem modifyEffect_setPolicy (op : ModifyOp) (w : Byte) (s : State) :
    modifyEffect op w (s.setPolicy p) = ((modifyEffect op w s).1, (modifyEffect op w s).2.setPolicy p) := by
  cases op <;> rfl

theorem branch_setPolicy (taken : Bool) (d : Byte) (s : State) :
    branch taken d (s.setPolicy p) = withPolicy p (branch taken d s) := by
  cases taken with
  | false => rfl
  | true => rw [branch_taken, branch_taken]; rfl

theorem impliedMeaning_setPolicy (op : ImpliedOp) (s : State) :
    impliedMeaning op (s.setPolicy p) = withPolicy p (impliedMeaning op s) := by
  cases op with
  | pha => exact push_setPolicy s.a s
  | php => exact push_setPolicy s.packed s
  | pla =>
    rw [impliedMeaning, execPlaImp, execPlaImp, pull_setPolicy]
    exact bindVal_withPolicy fun _ _ => rfl
  | plp =>
    rw [impliedMeaning, execPlpImp, execPlpImp, pull_setPolicy]
    exact bindVal_withPolicy fun _ _ => rfl
  | rts =>
    rw [impliedMeaning, execRtsImp, execRtsImp, pull16_setPolicy]
    exact bindVal_withPolicy fun _ _ => rfl
  | brk => exact trapEntry_setPolicy irqVector true (s.setPC (s.pc + 1))
  | rti => exact trapReturn_setPolicy s
  | _ => rfl

end

/-- Settles O10: of the nine shapes of an instruction only the unassigned one reads the policy. -/
theorem policyMattersOnlyOnUnassigned : Obligations.PolicyMattersOnlyOnUnassigned := by
  intro i s p hmode
  change exec i (s.setPolicy p) = _
  rw [exec_eq_runForm, exec_eq_runForm]
  cases hform : i.form with
  | read op src =>
    rw [runForm, runForm, readWith, readWith, loadOperand_setPolicy]
    exact bindVal_withPolicy fun w t => congrArg Host.Outcome.next (readEffect_setPolicy op w t)
  | store op m =>
    have hreg : storedRegister op (s.setPolicy p) = storedRegister op s := by cases op <;> rfl
    rw [runForm, runForm, hreg, storeOperand, storeOperand, resolve_setPolicy]
    exact bindVal_withPolicy fun ea t => memWrite_setPolicy ea _ t
  | modify op m =>
    rw [runForm, runForm, modifyOperand, modifyOperand, resolve_setPolicy]
    refine bindVal_withPolicy fun ea t => ?_
    rw [memRead_setPolicy]
    refine bindVal_withPolicy fun old u => ?_
    rw [modifyEffect_setPolicy]
    exact memWrite_setPolicy ea _ _
  | modifyAcc op => cases op <;> rfl
  | branch op d =>
    have htaken : branchTaken op (s.setPolicy p) = branchTaken op s := by cases op <;> rfl
    rw [runForm, runForm, htaken, branch_setPolicy]
  | jump m =>
    rw [runForm, runForm, jump, jump, resolve_setPolicy]
    exact bindVal_withPolicy fun _ _ => rfl
  | call w =>
    have hpc : (s.setPolicy p).pc = s.pc := rfl
    rw [runForm, runForm, call, call, hpc, push16_setPolicy]
    exact seq_withPolicy fun _ => rfl
  | implied op => exact impliedMeaning_setPolicy op s
  | unassigned opcode =>
    rw [Instr.mode, hform] at hmode
    exact absurd rfl hmode

end Sys2Proof.Machine
end

section
/-! SUPPORT. Where a push, a pull or a vector read is refused, alone and inside a word, an interrupt response, BRK and
RTI: what was done before stands (60_exceptions.md R245, 41_addressing_modes.md R125, R129). -/

namespace Sys2Proof.Machine

section
variable {s : State}

/-! ## Refused accesses of the stack and of a word -/

theorem State.kindAt_congr {t : State} (hr : t.regions = s.regions) (addr : Word) : t.kindAt addr = s.kindAt addr := by
  rw [State.kindAt, State.kindAt, hr]

theorem State.readable_congr {t : State} (hr : t.regions = s.regions) (addr : Word) :
    t.readable addr = s.readable addr := by
  rw [State.readable, State.readable, State.kindAt_congr hr]

theorem State.refusesRead_congr {t : State} (hr : t.regions = s.regions) (addr : Word) :
    t.refusesRead addr = s.refusesRead addr := by
  rw [State.refusesRead, State.refusesRead, State.kindAt_congr hr]

theorem State.vectorReady_congr {t : State} (hr : t.regions = s.regions) (vector : Word) :
    t.vectorReady vector = s.vectorReady vector := by
  rw [State.vectorReady, State.vectorReady, State.readable_congr hr, State.readable_congr hr]

/-- Whether the pushes are plain depends on S and the region map only. -/
theorem State.pushReady_congr {t : State} (hsp : t.sp = s.sp) (hr : t.regions = s.regions) (k : Nat) :
    t.pushReady k = s.pushReady k := by
  induction k generalizing s t with
  | zero => rfl
  | succ k ih =>
    have htail : (t.setSP (s.sp - 1)).pushReady k = (s.setSP (s.sp - 1)).pushReady k := ih rfl hr
    simp only [State.pushReady, State.writable, State.kindAt_congr hr, hsp, htail]

theorem State.pushReady_one : s.pushReady 1 = s.writable (stackAddr s.sp) := by
  simp [State.pushReady]

theorem State.pullReady_one : s.pullReady 1 = s.readable (stackAddr (s.sp + 1)) := by
  simp [State.pullReady]

/-- S moves only after a successful write. -/
theorem push_refused (w : Byte) (h : s.refusesWrite (stackAddr s.sp) = true) :
    push w s = .fault (.memoryFault (stackAddr s.sp) s.markFault) := by
  rw [push, memWrite_refused w h, seq_fault]

/-- S has moved before the read. -/
theorem pull_refused (h : s.refusesRead (stackAddr (s.sp + 1)) = true) :
    pull s = .fault (.memoryFault (stackAddr (s.sp + 1)) (s.setSP (s.sp + 1)).markFault) :=
  memRead_refused (s := s.setSP (s.sp + 1)) h

theorem push16_first_refused (w : Word) (h : s.refusesWrite (stackAddr s.sp) = true) :
    push16 w s = .fault (.memoryFault (stackAddr s.sp) s.markFault) := by
  rw [push16, push_refused _ h, seq_fault]

theorem push16_second_refused (w : Word) (hfirst : s.pushReady 1 = true)
    (h : s.refusesWrite (stackAddr (s.sp - 1)) = true) :
    push16 w s = .fault (.memoryFault (stackAddr (s.sp - 1))
      (((s.poke (stackAddr s.sp) (hiByte w)).tick 1).setSP (s.sp - 1)).markFault) := by
  rw [push16, push_ready _ (State.pushReady_one.symm.trans hfirst), seq_next]
  exact push_refused _ h

theorem pull16_first_refused (h : s.refusesRead (stackAddr (s.sp + 1)) = true) :
    pull16 s = .fault (.memoryFault (stackAddr (s.sp + 1)) (s.setSP (s.sp + 1)).markFault) := by
  rw [pull16, pull_refused h, bindVal_fault]

theorem pull16_second_refused (hfirst : s.pullReady 1 = true) (h : s.refusesRead (stackAddr (s.sp + 2)) = true) :
    pull16 s = .fault (.memoryFault (stackAddr (s.sp + 2)) ((s.setSP (s.sp + 2)).tick 1).markFault) := by
  have htwo : s.sp + 1 + 1 = s.sp + 2 := BitVec.add_assoc s.sp 1 1
  have hsecond := pull_refused (s := (s.setSP (s.sp + 1)).tick 1) (by
    rw [← htwo] at h
    exact h)
  rw [pull16, pull_ready (State.pullReady_one.symm.trans hfirst), bindVal_next, hsecond, bindVal_fault, ← htwo]
  rfl

theorem read16_first_refused {addr : Word} (h : s.refusesRead addr = true) :
    read16 addr s = .fault (.memoryFault addr s.markFault) := by
  rw [read16, memRead_refused h, bindVal_fault]

theorem read16_second_refused {addr : Word} (hfirst : s.readable addr = true)
    (h : s.refusesRead (addr + 1) = true) :
    read16 addr s = .fault (.memoryFault (addr + 1) (s.tick 1).markFault) := by
  rw [read16, memRead_readable hfirst, bindVal_next, memRead_refused (s := s.tick 1) h, bindVal_fault]

/-! ## Trap entry -/

theorem State.trapFlags_eq (forcedB : Bool) (s : State) :
    s.trapFlags forcedB = { s with i := true, b := if s.cfg.bWriteback then forcedB else s.b } := by
  unfold State.trapFlags
  split <;> rfl

/-- The three bytes a trap entry leaves on the stack, the first pushed first (R238). -/
def trapBytes (forcedB : Bool) (s : State) : List (Word × Byte) :=
  [(stackAddr s.sp, hiByte s.pc), (stackAddr (s.sp - 1), loByte s.pc), (stackAddr (s.sp - 2), s.statusByte forcedB)]

/-- The state of a trap entry before it reads the vector. -/
def trapPushed (forcedB : Bool) (s : State) : State :=
  { s.pokes (trapBytes forcedB s) with
    sp := s.sp - 3, i := true, b := if s.cfg.bWriteback then forcedB else s.b, cyc := s.cyc + 3 }

theorem push16_ready_of_three (h : s.pushReady 3 = true) :
    s.pushReady 2 = true ∧ s.writable (stackAddr (s.sp - 2)) = true := by
  have htwo : s.sp - 1 - 1 = s.sp - 2 := by bv_omega
  simp only [State.pushReady, Bool.and_eq_true, State.writable_setSP, State.setSP_sp, htwo, and_true] at h ⊢
  exact ⟨⟨h.1, h.2.1⟩, h.2.2⟩

@[simp] theorem State.statusByte_setSP (forcedB : Bool) (w : Byte) (s : State) :
    (s.setSP w).statusByte forcedB = s.statusByte forcedB := rfl
@[simp] theorem State.statusByte_tick (forcedB : Bool) (k : Nat) (s : State) :
    (s.tick k).statusByte forcedB = s.statusByte forcedB := rfl
@[simp] theorem State.statusByte_poke (forcedB : Bool) (addr : Word) (w : Byte) (s : State) :
    (s.poke addr w).statusByte forcedB = s.statusByte forcedB := rfl

/-- Three pushes on plain memory, a word and a byte below it. -/
theorem push16_push_ready (w : Word) (b : Byte) (h : s.pushReady 3 = true) :
    seq (push16 w s) (push b) = .next
      { s.pokes [(stackAddr s.sp, hiByte w), (stackAddr (s.sp - 1), loByte w), (stackAddr (s.sp - 2), b)] with
        sp := s.sp - 3, cyc := s.cyc + 3 } := by
  obtain ⟨htwo, hthird⟩ := push16_ready_of_three h
  have hsp : s.sp - 2 - 1 = s.sp - 3 := by bv_omega
  have hcyc : s.cyc + 2 + 1 = s.cyc + 3 := BitVec.add_assoc s.cyc 2 1
  rw [push16_ready _ htwo, seq_next, push_ready _ hthird, ← hsp, ← hcyc]
  rfl

/-- With the three pushes plain, only the two vector reads are left. -/
theorem trapEntry_pushed (vector : Word) (forcedB : Bool) (h : s.pushReady 3 = true) :
    trapEntry vector forcedB s =
      bindVal (read16 vector (trapPushed forcedB s)) fun target t => .next (t.setPC target) := by
  have hword := push16_ready s.pc (push16_ready_of_three h).1
  have hpushes := push16_push_ready s.pc (s.statusByte forcedB) h
  rw [hword, seq_next] at hpushes
  rw [trapEntry, hword, seq_next, State.statusByte_setSP, State.statusByte_tick, State.statusByte_poke,
    State.statusByte_poke, hpushes, seq_next, State.trapFlags_eq]
  rfl

/-! ## RTI -/

theorem trapReturn_first_refused (h : s.refusesRead (stackAddr (s.sp + 1)) = true) :
    trapReturn s = .fault (.memoryFault (stackAddr (s.sp + 1)) (s.setSP (s.sp + 1)).markFault) := by
  rw [trapReturn, pull_refused h, bindVal_fault]

/-- The flags are restored before the second pull. -/
theorem trapReturn_of_pull (h : s.pullReady 1 = true) :
    trapReturn s = bindVal
      (pull16 (((s.setSP (s.sp + 1)).tick 1).unpack (s.peek (stackAddr (s.sp + 1))))) fun target t =>
      .next (t.setPC target) := by
  rw [trapReturn, pull_ready (State.pullReady_one.symm.trans h), bindVal_next]

end

section
variable {s : State}

theorem exec_brkImp (s : State) : exec .brkImp s = trapEntry irqVector true (s.setPC (s.pc + 1)) := rfl

theorem exec_rtiImp (s : State) : exec .rtiImp s = trapReturn s := rfl

/-! ## Interrupt responses on plain memory -/

/-- NMI and IRQ run trap entry from a state with 2 cycles charged and the latch as they leave it. -/
theorem interrupt_ready {vector : Word} (pending : Bool) (hpush : s.pushReady 3 = true)
    (hvector : s.vectorReady vector = true) :
    trapEntry vector false { s with nmiPending := pending, cyc := s.cyc + 2 } = .next
      (let u := s.pokes (trapBytes false s)
       { u with nmiPending := pending, sp := s.sp - 3, i := true, b := if s.cfg.bWriteback then false else s.b,
                pc := u.peekWord vector, cyc := s.cyc + 7 }) := by
  have hcyc : s.cyc + 2 + 5 = s.cyc + 7 := BitVec.add_assoc s.cyc 2 5
  have hpush' : State.pushReady { s with nmiPending := pending, cyc := s.cyc + 2 } 3 = true :=
    (State.pushReady_congr rfl rfl 3).trans hpush
  have hvector' : State.vectorReady { s with nmiPending := pending, cyc := s.cyc + 2 } vector = true :=
    (State.vectorReady_congr rfl vector).trans hvector
  rw [trapEntry_ready vector false hpush' hvector', ← hcyc]
  rfl

theorem trapEntry_i {t : State} {vector : Word} {forcedB : Bool} (h : trapEntry vector forcedB s = .next t) :
    t.i = true := by
  rw [trapEntry_next h]

/-- However the response ends, the latch it cleared stays clear. -/
theorem nmiResponse_fault_left {f : Fault} (h : nmiResponse s = .fault f) : f.left.nmiPending = false := by
  have hkeeps := trapEntry_keeps nmiVector false (s.clearNmi.tick 2)
  rw [show trapEntry nmiVector false (s.clearNmi.tick 2) = .fault f from h] at hkeeps
  have hnmi : f.left.nmiPending = true → false = true := hkeeps.nmi
  simpa using hnmi

/-- Settles O14: the response is a trap entry with the latch already cleared, and it leaves I at 1. -/
theorem nmiIsAnsweredFirstAndOnce : Obligations.NmiIsAnsweredFirstAndOnce := by
  intro s hnmi
  rw [pollInterrupts_of_nmiPending hnmi]
  refine ⟨fun hpush hvector => interrupt_ready false hpush hvector, fun t h => ?_, fun f h => nmiResponse_fault_left h⟩
  have hlatch : t.nmiPending = false := trapEntry_nmiPending h
  have hi : t.i = true := trapEntry_i h
  exact ⟨hlatch, hi, pollInterrupts_of_masked hlatch hi⟩

/-- Settles O15: the response is a trap entry with the line and the latch as they were. -/
theorem irqIsAnsweredWhenUnmasked : Obligations.IrqIsAnsweredWhenUnmasked := by
  intro s hnmi
  refine ⟨fun hirq hi hpush hvector => ?_, fun h => pollInterrupts_of_no_irq hnmi h⟩
  rw [pollInterrupts_of_irq_unmasked hnmi hirq hi]
  exact interrupt_ready s.nmiPending hpush hvector

/-- Settles O16: past the pad byte BRK is a trap entry with B forced to 1. -/
theorem brkEntersTheHandler : Obligations.BrkEntersTheHandler := by
  refine ⟨rfl, fun s hpush hvector => ?_⟩
  have hpush' : (s.setPC (s.pc + 1)).pushReady 3 = true := (State.pushReady_congr rfl rfl 3).trans hpush
  have hvector' : (s.setPC (s.pc + 1)).vectorReady irqVector = true :=
    (State.vectorReady_congr rfl irqVector).trans hvector
  rw [exec_brkImp, trapEntry_ready irqVector true hpush' hvector']
  rfl

/-- Settles O17: the three entries are one operation, refused at one of its three pushes or two reads. -/
theorem refusedTrapEntryIsHalfDone : Obligations.RefusedTrapEntryIsHalfDone := by
  refine ⟨fun s hnmi => pollInterrupts_of_nmiPending hnmi,
    fun s hnmi hirq hi => pollInterrupts_of_irq_unmasked hnmi hirq hi, exec_brkImp, fun vector forced s => ?_⟩
  refine ⟨fun h => ?_, fun hpush h => ?_, fun hpush h => ?_, fun hpush h => ?_, fun hpush hread h => ?_⟩
  · rw [trapEntry, push16_first_refused _ h]
    rfl
  · rw [trapEntry, push16_second_refused _ hpush h]
    rfl
  · rw [trapEntry, push16_ready _ hpush, seq_next, push_refused _ (by simpa using h)]
    rfl
  · have h' : (trapPushed forced s).refusesRead vector = true := (State.refusesRead_congr rfl vector).trans h
    rw [trapEntry_pushed vector forced hpush, read16_first_refused h']
    rfl
  · have hcyc : s.cyc + 3 + 1 = s.cyc + 4 := BitVec.add_assoc s.cyc 3 1
    have hread' : (trapPushed forced s).readable vector = true := (State.readable_congr rfl vector).trans hread
    have h' : (trapPushed forced s).refusesRead (vector + 1) = true := (State.refusesRead_congr rfl _).trans h
    rw [trapEntry_pushed vector forced hpush, read16_second_refused hread' h', ← hcyc]
    rfl

/-- Settles O18: three pulls with the flags written after the first, each plain or refused. -/
theorem rtiRestoresFlagsAndPc : Obligations.RtiRestoresFlagsAndPc := by
  refine ⟨rfl, fun s => ?_⟩
  rw [exec_rtiImp]
  refine ⟨fun v t hpull => ⟨fun w u hpull16 => ?_, fun f hpull16 => ?_⟩, fun f hpull => ?_, fun hpull => ?_,
    fun h => trapReturn_first_refused h, fun hpull h => ?_, fun hpull h => ?_⟩
  · rw [trapReturn, hpull, bindVal_next, hpull16, bindVal_next, State.setPC]
  · rw [trapReturn, hpull, bindVal_next, hpull16, bindVal_fault]
  · rw [trapReturn, hpull, bindVal_fault]
  · rw [trapReturn_ready hpull]
    rfl
  · have htwo : s.sp + 1 + 1 = s.sp + 2 := BitVec.add_assoc s.sp 1 1
    rw [← htwo] at h ⊢
    rw [trapReturn_of_pull hpull, pull16_first_refused (s := ((s.setSP (s.sp + 1)).tick 1).unpack _) h]
    rfl
  · have hthree : s.sp + 1 + 2 = s.sp + 3 := BitVec.add_assoc s.sp 1 2
    have hcyc : s.cyc + 1 + 1 = s.cyc + 2 := BitVec.add_assoc s.cyc 1 1
    have hfirst : s.pullReady 1 = true := by
      simp only [State.pullReady, Bool.and_eq_true] at hpull ⊢
      exact ⟨hpull.1, trivial⟩
    have hsecond : (((s.setSP (s.sp + 1)).tick 1).unpack (s.peek (stackAddr (s.sp + 1)))).pullReady 1 = true := by
      simp only [State.pullReady, Bool.and_eq_true] at hpull
      exact State.pullReady_one.trans hpull.2.1
    rw [← hthree] at h ⊢
    rw [trapReturn_of_pull hfirst, pull16_second_refused hsecond h, ← hcyc]
    rfl

/-! ## Reset -/

/-- Settles O21: 5 cycles and I, then the two reads of the vector, each plain or refused. -/
theorem engineResetEffects : Obligations.EngineResetEffects := by
  intro s
  refine ⟨fun hvector => ?_, fun h => ?_, fun hread h => ?_⟩
  · have hcyc : s.cyc + 5 + 2 = s.cyc + 7 := BitVec.add_assoc s.cyc 5 2
    rw [engineReset, read16_ready (addr := resetVector) (s := (s.tick 5).setI true) hvector, ← hcyc]
    rfl
  · rw [engineReset, read16_first_refused (addr := resetVector) (s := (s.tick 5).setI true) h]
    rfl
  · have hcyc : s.cyc + 5 + 1 = s.cyc + 6 := BitVec.add_assoc s.cyc 5 1
    rw [engineReset, read16_second_refused (addr := resetVector) (s := (s.tick 5).setI true) hread h, ← hcyc]
    rfl

/-- Settles O22: every value of the construction state is written out, so both sides compute. -/
theorem resetStateFollowsFromInit : Obligations.ResetStateFollowsFromInit :=
  ⟨rfl, rfl, rfl⟩

end

end Sys2Proof.Machine
end

section
/-! SUPPORT. Entry into a handler that is a lone RTI, and the return from it: BRK in two steps, an interrupt in one, a
held IRQ without end (46_control_flow.md R222, R223, 60_exceptions.md R237, R242, R244). -/

namespace Sys2Proof.Machine

/-! ## The three stack bytes -/

/-- The bytes three pushes from S go to, wrapping in page 1 (41_addressing_modes.md R125). -/
abbrev stackBytes (sp : Byte) : List Word := [stackAddr sp, stackAddr (sp - 1), stackAddr (sp - 2)]

/-- An address of another page is no stack byte. -/
theorem not_mem_stackBytes {addr : Word} (h : hiByte addr ≠ 0x01) (sp : Byte) : addr ∉ stackBytes sp := by
  have hne (p : Byte) : addr ≠ stackAddr p := by
    rintro rfl
    exact h (hiByte_word _ _)
  simp [stackBytes, hne]

section
variable {s : State} (hm : Memory.wf s.mem = true) (x y z : Byte)
include hm

theorem wf_three_pokes :
    Memory.wf (s.pokes [(stackAddr s.sp, x), (stackAddr (s.sp - 1), y), (stackAddr (s.sp - 2), z)]).mem = true :=
  State.wf_poke (State.wf_poke (State.wf_poke hm _ _) _ _) _ _

theorem peek_three_pokes (addr : Word) :
    (s.pokes [(stackAddr s.sp, x), (stackAddr (s.sp - 1), y), (stackAddr (s.sp - 2), z)]).peek addr =
      if stackAddr (s.sp - 2) = addr then z else if stackAddr (s.sp - 1) = addr then y
      else if stackAddr s.sp = addr then x else s.peek addr := by
  simp only [State.pokes, List.foldl_cons, List.foldl_nil, State.peek_poke hm, State.peek_poke (State.wf_poke hm _ _),
    State.peek_poke (State.wf_poke (State.wf_poke hm _ _) _ _)]

theorem peek_three_pokes_of_not_mem {addr : Word} (h : addr ∉ stackBytes s.sp) :
    (s.pokes [(stackAddr s.sp, x), (stackAddr (s.sp - 1), y), (stackAddr (s.sp - 2), z)]).peek addr = s.peek addr := by
  simp only [stackBytes, List.mem_cons, List.not_mem_nil, or_false, not_or] at h
  obtain ⟨h0, h1, h2⟩ := h
  rw [peek_three_pokes hm, if_neg (Ne.symm h2), if_neg (Ne.symm h1), if_neg (Ne.symm h0)]

/-- The three pushed bytes, as they are pulled: no two of the addresses are equal. -/
theorem peek_three_pokes_stack :
    let u := s.pokes [(stackAddr s.sp, x), (stackAddr (s.sp - 1), y), (stackAddr (s.sp - 2), z)]
    u.peek (stackAddr s.sp) = x ∧ u.peek (stackAddr (s.sp - 1)) = y ∧ u.peek (stackAddr (s.sp - 2)) = z := by
  have h1 : s.sp - 1 ≠ s.sp := by bv_omega
  have h2 : s.sp - 2 ≠ s.sp := by bv_omega
  have h3 : s.sp - 2 ≠ s.sp - 1 := by bv_omega
  simp only [peek_three_pokes hm, stackAddr_inj, h1, h2, h3, if_false, if_true, and_self]

end

/-! ## A handler that is a lone RTI -/

/-- Stack, vector and handler on plain memory, and an RTI at the handler, outside the bytes pushed. -/
structure RtiHandler (vector : Word) (s : State) : Prop where
  wf : Memory.wf s.mem = true
  push : s.pushReady 3 = true
  pull : (s.setSP (s.sp - 3)).pullReady 3 = true
  ready : s.vectorReady vector = true
  readable : s.readable (s.peekWord vector) = true
  byte : s.peek (s.peekWord vector) = 0x40
  outside : s.peekWord vector ∉ stackBytes s.sp

/-- Nothing of it but S, the region map and the bytes outside the stack matters. -/
theorem RtiHandler.congr {vector : Word} {s u : State} (h : RtiHandler vector s)
    (hpage : hiByte vector ≠ 0x01 ∧ hiByte (vector + 1) ≠ 0x01) (hm : Memory.wf u.mem = true) (hsp : u.sp = s.sp)
    (hr : u.regions = s.regions) (hpeek : ∀ addr, addr ∉ stackBytes s.sp → u.peek addr = s.peek addr) :
    RtiHandler vector u := by
  have hword : u.peekWord vector = s.peekWord vector := by
    rw [State.peekWord, State.peekWord, State.peekPair, State.peekPair, hpeek _ (not_mem_stackBytes hpage.1 _),
      hpeek _ (not_mem_stackBytes hpage.2 _)]
  have hpull : (u.setSP (s.sp - 3)).pullReady 3 = (s.setSP (s.sp - 3)).pullReady 3 :=
    State.pullReady_congr (s := s.setSP (s.sp - 3)) (t := u.setSP (s.sp - 3)) rfl hr 3
  refine ⟨hm, (State.pushReady_congr hsp hr 3).trans h.push, ?_, (State.vectorReady_congr hr vector).trans h.ready,
    ?_, ?_, ?_⟩
  · rw [hsp]
    exact hpull.trans h.pull
  · rw [hword, State.readable_congr hr]
    exact h.readable
  · rw [hword, hpeek _ h.outside]
    exact h.byte
  · rw [hword, hsp]
    exact h.outside

/-- A fetched RTI, wherever the poll led. -/
theorem step_rti {s t : State} (hline : s.resetLine = false) (hpoll : pollInterrupts s = .next t)
    (hread : t.readable t.pc = true) (hbyte : t.peek t.pc = 0x40) :
    ∃ cyc, step s = trapReturn { t with pc := t.pc + 1, cyc := cyc } := by
  have hdecode : decode (t.bytesFrom t.pc 3) = .ok .rtiImp [t.peek (t.pc + 1), t.peek (t.pc + 1 + 1)] := by
    simp only [State.bytesFrom, hbyte]
    rfl
  refine ⟨_, (stepRunsDecodedInstruction s t .rtiImp _ hline hpoll hdecode ?_).1⟩
  change (t.readable t.pc && true) = true
  rw [hread, Bool.and_true]

section
variable {vector : Word} {forcedB : Bool} {s : State} (h : RtiHandler vector s)
  (hpage : hiByte vector ≠ 0x01 ∧ hiByte (vector + 1) ≠ 0x01)
include h hpage

/-- Trap entry into it. -/
theorem trapEntry_handler (forcedB : Bool) : ∃ t, trapEntry vector forcedB s = .next t ∧
    t.pc = s.peekWord vector ∧ t.readable t.pc = true ∧ t.peek t.pc = 0x40 ∧ Memory.wf t.mem = true ∧
    (∀ addr, addr ∉ stackBytes s.sp → t.peek addr = s.peek addr) ∧
    t.peek (stackAddr s.sp) = hiByte s.pc ∧ t.peek (stackAddr (s.sp - 1)) = loByte s.pc ∧
    t.peek (stackAddr (s.sp - 2)) = s.statusByte forcedB := by
  have hframe {addr : Word} (hout : addr ∉ stackBytes s.sp) :
      (s.pokes (trapBytes forcedB s)).peek addr = s.peek addr :=
    peek_three_pokes_of_not_mem h.wf _ _ _ hout
  have hpc : (s.pokes (trapBytes forcedB s)).peekWord vector = s.peekWord vector := by
    rw [State.peekWord, State.peekWord, State.peekPair, State.peekPair, hframe (not_mem_stackBytes hpage.1 _),
      hframe (not_mem_stackBytes hpage.2 _)]
  refine ⟨_, trapEntry_ready vector forcedB h.push h.ready, hpc, ?_, ?_, wf_three_pokes h.wf _ _ _,
    fun addr hout => hframe hout, peek_three_pokes_stack h.wf _ _ _⟩
  · exact (State.readable_congr (s := s) rfl _).trans ((congrArg s.readable hpc).trans h.readable)
  · exact (congrArg _ hpc).trans ((hframe h.outside).trans h.byte)

/-- Entry and return: PC, S and the flags pushed come back, B as pushed, and only the stack bytes of memory differ. -/
theorem trapReturn_handler {t : State} (ht : trapEntry vector forcedB s = .next t) (pc : Word) (cyc : Cycles) :
    trapReturn { t with pc := pc, cyc := cyc } = .next { t with
      n := s.n, v := s.v, b := forcedB, d := s.d, i := s.i, z := s.z, c := s.c, pc := s.pc, sp := s.sp,
      cyc := cyc + 3 } := by
  obtain ⟨t', ht', -, -, -, -, -, hhigh, hlow, hstatus⟩ := trapEntry_handler h hpage forcedB
  cases ht'.symm.trans ht
  have hsp : t.sp = s.sp - 3 := by rw [trapEntry_next ht]
  have hr : t.regions = s.regions := by rw [trapEntry_next ht]
  have hpull : State.pullReady { t with pc := pc, cyc := cyc } 3 = true :=
    (State.pullReady_congr (s := s.setSP (s.sp - 3)) hsp hr 3).trans h.pull
  have h1 : t.sp + 1 = s.sp - 2 := by bv_omega
  have h2 : t.sp + 2 = s.sp - 1 := by bv_omega
  have h3 : t.sp + 3 = s.sp := by bv_omega
  have hbits (k : Nat) : (s.statusByte forcedB).getLsbD k =
      [s.c, s.z, s.i, s.d, forcedB, true, s.v, s.n].getD k false := by
    rw [State.statusByte_eq_packed, State.packed_getLsbD]
  rw [trapReturn_ready hpull]
  change Host.Outcome.next (State.tick 3 (State.setSP (t.sp + 3) (State.setPC
    (word (t.peek (stackAddr (t.sp + 3))) (t.peek (stackAddr (t.sp + 2))))
    (State.unpack (t.peek (stackAddr (t.sp + 1))) { t with pc := pc, cyc := cyc })))) = _
  rw [h1, h2, h3, hhigh, hlow, hstatus, word_hiByte_loByte]
  simp only [State.unpack, hbits]
  rfl

end

/-! ## An interrupt into it -/

theorem vector_pages {vector : Word} (h : vector = 0xFFFA ∨ vector = 0xFFFE) :
    hiByte vector ≠ 0x01 ∧ hiByte (vector + 1) ≠ 0x01 := by
  rcases h with rfl | rfl <;> decide

/-- Both responses are a trap entry with B forced to 0, from a state that differs in CYC and the latch. -/
theorem pollInterrupts_eq_trapEntry {s : State} {vector : Word}
    (h : s.nmiPending = true ∧ vector = 0xFFFA ∨
      s.nmiPending = false ∧ s.irqLine = true ∧ s.i = false ∧ vector = 0xFFFE) :
    pollInterrupts s = trapEntry vector false { s with nmiPending := false, cyc := s.cyc + 2 } := by
  rcases h with ⟨hnmi, rfl⟩ | ⟨hnmi, hirq, hi, rfl⟩
  · exact pollInterrupts_of_nmiPending hnmi
  · have hlatch : { s with nmiPending := false, cyc := s.cyc + 2 } = s.tick 2 := by
      rw [← hnmi]
      rfl
    rw [hlatch]
    exact pollInterrupts_of_irq_unmasked hnmi hirq hi

section
variable {s : State} {vector : Word}
  (hpending : s.nmiPending = true ∧ vector = 0xFFFA ∨
    s.nmiPending = false ∧ s.irqLine = true ∧ s.i = false ∧ vector = 0xFFFE)
  (hline : s.resetLine = false) (h : RtiHandler vector s)
include hpending hline h

/-- One step is the response and the RTI, and the interrupted program is where it was (R237, R242). -/
theorem step_interrupt_rti : ∃ u, step s = .next u ∧ u.nmiPending = false ∧
    u = { s with nmiPending := false, b := false, mem := u.mem, cyc := u.cyc, deviceLog := u.deviceLog } ∧
    ∀ addr, addr ∉ stackBytes s.sp → u.peek addr = s.peek addr := by
  have hpage : hiByte vector ≠ 0x01 ∧ hiByte (vector + 1) ≠ 0x01 := by
    refine vector_pages ?_
    rcases hpending with ⟨-, hv⟩ | ⟨-, -, -, hv⟩
    · exact .inl hv
    · exact .inr hv
  have hentry : RtiHandler vector { s with nmiPending := false, cyc := s.cyc + 2 } :=
    h.congr hpage h.wf rfl rfl fun _ _ => rfl
  obtain ⟨t, ht, hpc, hread, hbyte, hm, hpeek, -⟩ := trapEntry_handler hentry hpage false
  have hpoll : pollInterrupts s = .next t := (pollInterrupts_eq_trapEntry hpending).trans ht
  obtain ⟨cyc, hstep⟩ := step_rti hline hpoll hread hbyte
  rw [trapReturn_handler hentry hpage ht] at hstep
  refine ⟨_, hstep, (trapEntry_nmiPending ht : t.nmiPending = false), ?_, fun addr hout => hpeek addr hout⟩
  rw [trapEntry_next ht]

end

/-- An IRQ that waits, unmasked, in front of such a handler. -/
structure HeldIrq (s : State) : Prop where
  resetLine : s.resetLine = false
  nmiPending : s.nmiPending = false
  irqLine : s.irqLine = true
  i : s.i = false
  handler : RtiHandler 0xFFFE s

/-- The step answers the IRQ and returns to where the same IRQ waits again (R244). -/
theorem HeldIrq.step {s : State} (h : HeldIrq s) :
    ∃ u, Machine.step s = .next u ∧ HeldIrq u ∧ u.pc = s.pc ∧ u.sp = s.sp := by
  obtain ⟨u, hstep, hnmi, hu, hpeek⟩ := step_interrupt_rti (.inr ⟨h.nmiPending, h.irqLine, h.i, rfl⟩) h.resetLine
    h.handler
  have hkeeps := step_keeps s
  rw [hstep] at hkeeps
  have hsp : u.sp = s.sp := by rw [hu]
  have hi : u.i = s.i := by rw [hu]
  refine ⟨u, hstep, ⟨?_, hnmi, ?_, hi.trans h.i, ?_⟩, by rw [hu], hsp⟩
  · exact hkeeps.outside.resetLine.trans h.resetLine
  · exact hkeeps.outside.irqLine.trans h.irqLine
  · exact h.handler.congr (vector_pages (.inr rfl)) (hkeeps.wf h.handler.wf) hsp hkeeps.outside.regions hpeek

theorem HeldIrq.afterSteps {s : State} (h : HeldIrq s) (k : Nat) :
    ∃ w, Machine.afterSteps k s = some w ∧ HeldIrq w ∧ w.pc = s.pc ∧ w.sp = s.sp := by
  induction k generalizing s with
  | zero => exact ⟨s, rfl, h, rfl, rfl⟩
  | succ k ih =>
    obtain ⟨u, hstep, hu, hpc, hsp⟩ := h.step
    obtain ⟨w, hw, hheld, hpc', hsp'⟩ := ih hu
    exact ⟨w, (afterSteps_next k hstep).trans hw, hheld, hpc'.trans hpc, hsp'.trans hsp⟩

/-- Settles O20: one step is entry and return; with the IRQ held the state after it waits as the first one did. -/
theorem interruptThenRtiRestores : Obligations.InterruptThenRtiRestores := by
  intro s vector hpending hline hm hpush hpull hvector hread hbyte hout
  have h : RtiHandler vector s := ⟨hm, hpush, hpull, hvector, hread, hbyte, hout⟩
  obtain ⟨u, hstep, hnmi, hu, hpeek⟩ := step_interrupt_rti hpending hline h
  have hkeeps := step_keeps s
  rw [hstep] at hkeeps
  refine ⟨u, hstep, hkeeps.outside, hnmi, ?_⟩
  have hregs : u.pc = s.pc ∧ u.sp = s.sp ∧ u.a = s.a ∧ u.x = s.x ∧ u.y = s.y ∧ u.n = s.n ∧ u.v = s.v ∧ u.d = s.d ∧
      u.i = s.i ∧ u.z = s.z ∧ u.c = s.c ∧ u.b = false := by
    rw [hu]
    exact ⟨rfl, rfl, rfl, rfl, rfl, rfl, rfl, rfl, rfl, rfl, rfl, rfl⟩
  obtain ⟨hpc, hsp, ha, hx, hy, hn, hv, hd, hi, hz, hc, hb⟩ := hregs
  refine ⟨hpc, hsp, ha, hx, hy, hn, hv, hd, hi, hz, hc, hb, hkeeps.wf hm, hpeek, fun hirq k => ?_⟩
  subst hirq
  have hheld : HeldIrq s := by
    rcases hpending with ⟨-, hv⟩ | ⟨hnmi, hirq, hi, -⟩
    · exact absurd hv (by decide)
    · exact ⟨hline, hnmi, hirq, hi, h⟩
  obtain ⟨w, hw, hwaits, hpc, hsp⟩ := hheld.afterSteps k
  exact ⟨w, hw, hpc, hsp, hwaits.i, hwaits.irqLine⟩

/-! ## BRK into it -/

/-- A fetched BRK: PC is past its one byte, and one more past the pad byte. -/
theorem step_brk {s : State} (hquiet : s.quiet = true) (hread : s.readable s.pc = true) (hbyte : s.peek s.pc = 0x00) :
    ∃ cyc, step s = trapEntry irqVector true { s with pc := s.pc + 2, cyc := cyc } := by
  have hdecode : decode (s.bytesFrom s.pc 3) = .ok .brkImp [s.peek (s.pc + 1), s.peek (s.pc + 1 + 1)] := by
    simp only [State.bytesFrom, hbyte]
    rfl
  have hone : s.readableFrom s.pc (encode .brkImp).length = true := by
    change (s.readable s.pc && true) = true
    rw [hread, Bool.and_true]
  have hpc : s.pc + 1 + 1 = s.pc + 2 := BitVec.add_assoc s.pc 1 1
  rw [(stepRunsDecodedInstruction s s .brkImp _ (State.quiet_iff.mp hquiet).1 (pollInterrupts_of_quiet hquiet) hdecode
    hone).1, exec_brkImp, ← hpc]
  exact ⟨_, rfl⟩

/-- Settles O19: one step enters the handler, where no interrupt is answered since I is 1, and one step returns. -/
theorem brkThenRtiRestores : Obligations.BrkThenRtiRestores := by
  intro s hquiet hread hbyte hm hpush hpull hvector hreadable hhandler hout
  obtain ⟨hline, hnmi, -⟩ := State.quiet_iff.mp hquiet
  have hpage := vector_pages (vector := irqVector) (.inr rfl)
  obtain ⟨cyc, hstep⟩ := step_brk hquiet hread hbyte
  have hs : RtiHandler irqVector s := ⟨hm, hpush, hpull, hvector, hreadable, hhandler, hout⟩
  have h : RtiHandler irqVector { s with pc := s.pc + 2, cyc := cyc } := hs.congr hpage hm rfl rfl fun _ _ => rfl
  obtain ⟨t, ht, hpc, hread', hbyte', -⟩ := trapEntry_handler h hpage true
  have hline' : t.resetLine = false := by rw [trapEntry_next ht]; exact hline
  have hquiet' : t.quiet = true :=
    State.quiet_iff.mpr ⟨hline', (trapEntry_nmiPending ht).trans hnmi, .inr (trapEntry_i ht)⟩
  obtain ⟨cyc', hstep'⟩ := step_rti hline' (pollInterrupts_of_quiet hquiet') hread' hbyte'
  rw [trapReturn_handler h hpage ht] at hstep'
  refine ⟨t, _, hstep.trans ht, hstep', hpc, trapEntry_i ht, ?_, rfl, rfl, ?_⟩
  · rw [trapEntry_next ht]
  · rw [trapEntry_next ht]
    exact ⟨rfl, rfl, rfl, rfl, rfl, rfl, rfl, rfl, rfl, rfl⟩

end Sys2Proof.Machine
end

section
/-! SUPPORT. The actions of the host and the two operations of the bus (10_state.md R21 to R25, R31, 20_memory.md R41
to R43, R50, R52). -/

namespace Sys2Proof.Machine

/-! ## The host -/

/-- A flag reads as written and the six others as before (10_state.md R31). -/
theorem State.readFlag_writeFlag (flag other : Flag) (f : Bool) (s : State) :
    (s.writeFlag flag f).readFlag other = if other = flag then f else s.readFlag other := by
  cases flag <;> cases other <;> rfl

/-- Writing a flag is an update of the seven flags. -/
theorem State.writeFlag_eq (flag : Flag) (f : Bool) (s : State) : ∃ c z i d b v n,
    s.writeFlag flag f = { s with c := c, z := z, i := i, d := d, b := b, v := v, n := n } := by
  cases flag <;> exact ⟨_, _, _, _, _, _, _, rfl⟩

/-- Settles O24: every action is one update of the state by definition; what a flag, the packed status and a byte of
memory read as afterwards are the laws of those three. -/
theorem hostReadsAndWritesRegisters : Obligations.HostReadsAndWritesRegisters := by
  intro s
  refine ⟨fun _ => rfl, fun _ => rfl, fun _ => rfl, fun _ => rfl, fun _ => rfl, fun w => ⟨rfl, s.packed_unpack w⟩,
    fun flag other f => s.readFlag_writeFlag flag other f, fun flag f => s.writeFlag_eq flag f, fun _ => rfl,
    fun _ => rfl, fun _ => rfl, fun _ => rfl, fun addr w => ⟨rfl, fun hm b => ?_⟩⟩
  simp only [applyHost, State.peek_poke hm, eq_comm]

/-! ## The bus -/

/-- Settles O26: one outcome for each kind of address and each answer of a device. -/
theorem busAccessContract : Obligations.BusAccessContract := by
  intro s addr w
  constructor
  · rw [memRead]
    cases s.kindAt addr with
    | device => cases Config.deviceRead s.deviceLog addr <;> rfl
    | _ => rfl
  · rw [memWrite]
    cases s.kindAt addr with
    | device => cases Config.deviceWrite s.deviceLog addr w <;> rfl
    | _ => rfl

/-- Settles O27: the write is a byte poked, and a byte read is the byte memory holds. -/
theorem readAfterWriteOnPlainMemory : Obligations.ReadAfterWriteOnPlainMemory := by
  intro s addr other w hm hkind hread
  have hwritable : s.writable addr = true := by simp [State.writable, hkind]
  have hread' : ((s.poke addr w).tick 1).readable other = true := hread
  have hcyc : s.cyc + 1 + 1 = s.cyc + 2 := BitVec.add_assoc s.cyc 1 1
  refine ⟨_, memWrite_writable w hwritable, State.wf_poke hm addr w, ?_⟩
  rw [memRead_readable hread', State.peek_tick, State.peek_poke hm, ← hcyc]
  simp only [eq_comm]
  rfl

end Sys2Proof.Machine
end

section
/-! SUPPORT. The effective addresses in integers: indexing with its wrap and its page-cross cycle, and the pointer
modes with the bytes they read (41_addressing_modes.md R115 to R123, R126). -/

namespace Sys2Proof.Machine

/-! ## Words and bytes as integers -/

theorem zext16_eq_ofNat (b : Byte) : zext16 b = BitVec.ofNat 16 b.toNat := by
  rw [← zext16_toNat, BitVec.ofNat_toNat, BitVec.setWidth_eq]

theorem zext16_add_eq_ofNat (b c : Byte) : zext16 (b + c) = BitVec.ofNat 16 ((b.toNat + c.toNat) % 256) := by
  rw [zext16_eq_ofNat, BitVec.toNat_add]

theorem word_add_ofNat (w : Word) (k : Nat) : w + BitVec.ofNat 16 k = BitVec.ofNat 16 ((w.toNat + k) % 65536) := by
  apply BitVec.eq_of_toNat_eq
  simp only [BitVec.toNat_add, BitVec.toNat_ofNat]
  omega

theorem word_add_zext16 (w : Word) (b : Byte) : w + zext16 b = BitVec.ofNat 16 ((w.toNat + b.toNat) % 65536) := by
  rw [zext16_eq_ofNat, word_add_ofNat]

/-- The page-cross cycle, by the pages as integers (R126). -/
theorem pageCrossed_ofNat_toNat (base : Word) (addr : Nat) (h : addr < 65536) :
    (pageCrossed base (BitVec.ofNat 16 addr)).toNat = if addr / 256 = base.toNat / 256 then 0 else 1 := by
  have hmod : addr % 2 ^ 16 = addr := by omega
  rw [pageCrossed_eq_decide, BitVec.toNat_ofNat, hmod]
  split <;> simp [*]

/-! ## The modes without a pointer -/

/-- Settles O30: no pointer is read, so the resolver answers the closed form, which is compared in integers. -/
theorem directAndIndexedAddresses : Obligations.DirectAndIndexedAddresses := by
  intro m s addr cost h
  have hclosed : pointerReadable m s = true ∧ effAddr m s = BitVec.ofNat 16 addr ∧ resolveCost m s = cost := by
    cases m with
    | zp b => obtain ⟨rfl, rfl⟩ := h; exact ⟨rfl, zext16_eq_ofNat b, rfl⟩
    | zpx b => obtain ⟨rfl, rfl⟩ := h; exact ⟨rfl, zext16_add_eq_ofNat b s.x, rfl⟩
    | zpy b => obtain ⟨rfl, rfl⟩ := h; exact ⟨rfl, zext16_add_eq_ofNat b s.y, rfl⟩
    | abs w => obtain ⟨rfl, rfl⟩ := h; exact ⟨rfl, by rw [effAddr, BitVec.ofNat_toNat, BitVec.setWidth_eq], rfl⟩
    | abx w =>
      obtain ⟨rfl, rfl⟩ := h
      refine ⟨rfl, word_add_zext16 w s.x, ?_⟩
      rw [resolveCost, word_add_zext16, pageCrossed_ofNat_toNat _ _ (Nat.mod_lt _ (by decide))]
    | aby w =>
      obtain ⟨rfl, rfl⟩ := h
      refine ⟨rfl, word_add_zext16 w s.y, ?_⟩
      rw [resolveCost, word_add_zext16, pageCrossed_ofNat_toNat _ _ (Nat.mod_lt _ (by decide))]
    | ind w => exact h.elim
    | izx b => exact h.elim
    | izy b => exact h.elim
  obtain ⟨hready, haddr, hcost⟩ := hclosed
  refine ⟨?_, haddr, hcost, hready⟩
  rw [resolve_ready hready, haddr, hcost, State.tick]

/-! ## The modes with a pointer -/

theorem readPair_first_refused {s : State} {lo hi : Word} (h : s.refusesRead lo = true) :
    readPair lo hi s = .fault (.memoryFault lo s.markFault) := by
  rw [readPair, memRead_refused h, bindVal_fault]

theorem readPair_second_refused {s : State} {lo hi : Word} (hfirst : s.readable lo = true)
    (h : s.refusesRead hi = true) : readPair lo hi s = .fault (.memoryFault hi (s.tick 1).markFault) := by
  rw [readPair, memRead_readable hfirst, bindVal_next, memRead_refused (s := s.tick 1) h, bindVal_fault]

/-- A mode reads its pointer at `p` and `q`, low byte first, and adds `index` to the word read. -/
structure ReadsPointer (m : AddrMode) (s : State) (p q : Word) (index : Nat) : Prop where
  ready : pointerReadable m s = (s.readable p && s.readable q)
  addr : effAddr m s = s.peekPair p q + BitVec.ofNat 16 index
  cost : resolveCost m s = 2 + (pageCrossed (s.peekPair p q) (s.peekPair p q + BitVec.ofNat 16 index)).toNat
  fault : ∀ f, readPair p q s = .fault f → resolve m s = .fault f

theorem pageCrossed_self (base : Word) : pageCrossed base base = false := by
  rw [pageCrossed, bne_self_eq_false]

theorem readsPointer_ind (w : Word) (s : State) : ReadsPointer (.ind w) s w (indHighAddr w) 0 :=
  ⟨rfl, (BitVec.add_zero _).symm, by rw [BitVec.add_zero, pageCrossed_self]; rfl, fun _ h => h⟩

theorem readsPointer_izx (b : Byte) (s : State) :
    ReadsPointer (.izx b) s (zext16 (b + s.x)) (zext16 (b + s.x + 1)) 0 :=
  ⟨rfl, (BitVec.add_zero _).symm, by rw [BitVec.add_zero, pageCrossed_self]; rfl, fun _ h => h⟩

theorem readsPointer_izy (b : Byte) (s : State) :
    ReadsPointer (.izy b) s (zext16 b) (zext16 (b + 1)) s.y.toNat := by
  refine ⟨rfl, ?_, ?_, fun f h => ?_⟩
  · rw [← zext16_eq_ofNat]
    rfl
  · rw [← zext16_eq_ofNat]
    rfl
  · rw [resolve, readZeroPagePointer, h, bindVal_fault]

theorem indHighAddr_eq_ofNat (w : Word) :
    indHighAddr w = BitVec.ofNat 16 (w.toNat / 256 * 256 + (w.toNat % 256 + 1) % 256) := by
  apply BitVec.eq_of_toNat_eq
  have h := w.isLt
  rw [indHighAddr, word_toNat, hiByte_toNat, BitVec.toNat_add, loByte_toNat, BitVec.toNat_ofNat]
  have hone : (1 : Byte).toNat = 1 := rfl
  omega

theorem zext16_succ_eq_ofNat (b : Byte) : zext16 (b + 1) = BitVec.ofNat 16 ((b.toNat + 1) % 256) :=
  zext16_add_eq_ofNat b 1

/-- Settles O31: each mode is a pointer at two addresses and an index; the resolver answers the closed form where both
reads are plain, and stops at the first read refused. -/
theorem pointerModes : Obligations.PointerModes := by
  intro m s lo hi index h p q base addr cost
  have hpointer : ReadsPointer m s p q index := by
    cases m with
    | ind w =>
      obtain ⟨rfl, rfl, rfl⟩ := h
      have hp : p = w := by simp [p]
      have hq : q = indHighAddr w := (indHighAddr_eq_ofNat w).symm
      rw [hp, hq]
      exact readsPointer_ind w s
    | izx b =>
      obtain ⟨rfl, rfl, rfl⟩ := h
      have hp : p = zext16 (b + s.x) := (zext16_add_eq_ofNat b s.x).symm
      have hq : q = zext16 (b + s.x + 1) := by rw [zext16_succ_eq_ofNat, BitVec.toNat_add]
      rw [hp, hq]
      exact readsPointer_izx b s
    | izy b =>
      obtain ⟨rfl, rfl, rfl⟩ := h
      have hp : p = zext16 b := (zext16_eq_ofNat b).symm
      have hq : q = zext16 (b + 1) := (zext16_succ_eq_ofNat b).symm
      rw [hp, hq]
      exact readsPointer_izy b s
    | _ => exact h.elim
  have hbase : (s.peekPair p q).toNat = base := word_toNat _ _
  have haddr : effAddr m s = BitVec.ofNat 16 addr := by rw [hpointer.addr, word_add_ofNat, hbase]
  have hcost : resolveCost m s = cost := by
    rw [hpointer.cost, word_add_ofNat, hbase, pageCrossed_ofNat_toNat _ _ (Nat.mod_lt _ (by decide)), hbase]
    simp only [cost, addr]
    split <;> rfl
  refine ⟨fun hp hq => ?_, fun hp => hpointer.fault _ (readPair_first_refused hp), fun hp hq =>
    hpointer.fault _ (readPair_second_refused hp hq)⟩
  have hready : pointerReadable m s = true := by rw [hpointer.ready, hp, hq]; rfl
  refine ⟨?_, haddr, hcost, hready⟩
  rw [resolve_ready hready, haddr, hcost, State.tick]

end Sys2Proof.Machine
end

section
/-! SUPPORT. The instructions that read one operand byte where the read lands on plain memory: loads, add and subtract
in both modes, compares, logical operations and BIT, in integers (42_load_store_transfer.md, 43_arithmetic_compare.md,
44_logical_shift.md). -/

namespace Sys2Proof.Machine

/-! ## The shape -/

/-- A read-type instruction is its effect on the operand byte. -/
theorem exec_of_form_read {i : Instr} {op : ReadOp} {src : Source} (h : i.form = .read op src) (s : State) :
    exec i s = readWith (readEffect op) src s := by
  rw [exec_eq_runForm, h, runForm]

theorem exec_read_ready {i : Instr} {op : ReadOp} {src : Source} {s : State} (h : i.form = .read op src)
    (hready : sourceReady src s = true) :
    exec i s = .next (readEffect op (sourceValue src s) (s.tick (sourceCost src s))) := by
  rw [exec_of_form_read h, readWith_ready _ hready]

/-! ## Loads -/

/-- Settles O32: the effect of a load is its register written and `SetNZ`. -/
theorem loadsWriteOneRegister : Obligations.LoadsWriteOneRegister := by
  intro i src s hready m cost
  refine ⟨fun hform => ?_, fun hform => ?_, fun hform => ?_⟩
  · simp only [exec_read_ready hform hready, readEffect, State.setNZ_eq_getLsbD]
    rfl
  · simp only [exec_read_ready hform hready, readEffect, State.setNZ_eq_getLsbD]
    rfl
  · simp only [exec_read_ready hform hready, readEffect, State.setNZ_eq_getLsbD]
    rfl

/-! ## Binary addition -/

theorem addResult_eq_ofNat (a m : Byte) (cin : Bool) : addResult a m cin = BitVec.ofNat 8 (addTotal a m cin % 256) := by
  apply BitVec.eq_of_toNat_eq
  rw [addResult, BitVec.toNat_ofNat, BitVec.toNat_ofNat]
  omega

/-- The rule of signs of R150 says that the signed sum is out of range. -/
theorem addOverflow_eq_decide (a m : Byte) (cin : Bool) :
    addOverflow a m cin =
      decide (a.toInt + m.toInt + cin.toNat < -128 ∨ 127 < a.toInt + m.toInt + cin.toNat) := by
  have hcin := cin.toNat_le
  have ha := a.isLt
  have hm := m.isLt
  rw [addOverflow, addResult_eq_ofNat, BitVec.msb_eq_decide, BitVec.msb_eq_decide, BitVec.msb_eq_decide,
    BitVec.toNat_ofNat, addTotal, byte_toInt_eq_ite, byte_toInt_eq_ite, Bool.eq_iff_iff]
  simp only [Bool.and_eq_true, beq_iff_eq, bne_iff_ne, ne_eq, decide_eq_decide, decide_eq_true_eq]
  split <;> split <;> omega

/-- Z, N and V of an addition, in both modes (R150). -/
theorem State.setNZ_addResult (m : Byte) (s : State) :
    (s.setNZ (addResult s.a m s.c)).setV (addOverflow s.a m s.c) = { s with
      z := decide ((s.a.toNat + m.toNat + s.c.toNat) % 256 = 0),
      n := decide (128 ≤ (s.a.toNat + m.toNat + s.c.toNat) % 256),
      v := decide (s.a.toInt + m.toInt + s.c.toNat < -128 ∨ 127 < s.a.toInt + m.toInt + s.c.toNat) } := by
  rw [addOverflow_eq_decide, addResult_eq_ofNat, State.setNZ_ofNat_mod]
  rfl

/-- Settles O35: with D = 0 the effect writes the sum and its carry after Z, N and V. -/
theorem adcBinarySum : Obligations.AdcBinarySum := by
  intro i src s hform hready hd m t signed
  have hd' : ¬ (s.tick (sourceCost src s)).d = true := by simp [hd]
  rw [exec_read_ready hform hready, readEffect, State.adc, if_neg hd', State.setNZ_addResult, addResult_eq_ofNat]
  rfl

/-! ## Decimal addition -/

theorem bcdOpen_of_valid {a m : Byte} (cfg : Config) (ha : a.toNat / 16 ≤ 9 ∧ a.toNat % 16 ≤ 9)
    (hm : m.toNat / 16 ≤ 9 ∧ m.toNat % 16 ≤ 9) : bcdOpen cfg a m = false := by
  simp [bcdOpen, validBcd, ha, hm]

theorem bcdOpen_of_nmos {cfg : Config} (h : cfg.invalidBcd = .nmos) (a m : Byte) : bcdOpen cfg a m = false := by
  simp [bcdOpen, h]

theorem bcdAdd_of_not_open {cfg : Config} {a m : Byte} (h : bcdOpen cfg a m = false) (cin : Bool) :
    bcdAdd cfg a m cin = bcdAddNmos a m cin := by
  rw [bcdAdd, h, if_neg Bool.false_ne_true]

/-- The digit correction in integers, its byte taken modulo 256 (R151). -/
theorem bcdAddNmos_eq (a m : Byte) (cin : Bool) :
    bcdAddNmos a m cin =
      let al := a.toNat % 16 + m.toNat % 16 + cin.toNat
      let k := a.toNat / 16 * 16 + m.toNat / 16 * 16 + if 10 ≤ al then (al + 6) % 16 + 16 else al
      if 160 ≤ k then (BitVec.ofNat 8 ((k + 96) % 256), true) else (BitVec.ofNat 8 (k % 256), false) := by
  have hmod (k : Nat) : BitVec.ofNat 8 (k % 256) = BitVec.ofNat 8 k := by
    apply BitVec.eq_of_toNat_eq
    rw [BitVec.toNat_ofNat, BitVec.toNat_ofNat, Nat.mod_mod]
  simp only [hmod]
  rfl

/-- The tens and ones of a number below 200, and its hundreds. -/
theorem decimal_digits {q r : Nat} (hq : q < 20) (hr : r < 10) :
    (10 * q + r) % 100 / 10 = (if 10 ≤ q then q - 10 else q) ∧ (10 * q + r) % 100 % 10 = r ∧
      (99 < 10 * q + r ↔ 10 ≤ q) := by
  split <;> omega

/-- On valid digits the correction is the decimal sum, low digit first (R151): the digits carried to 16 and to 10 are
the same `q` and `r`. -/
theorem bcdAddNmos_of_valid {a m : Byte} (ha : a.toNat / 16 ≤ 9 ∧ a.toNat % 16 ≤ 9)
    (hm : m.toNat / 16 ≤ 9 ∧ m.toNat % 16 ≤ 9) (cin : Bool) :
    bcdAddNmos a m cin =
      let k := 10 * (a.toNat / 16) + a.toNat % 16 + (10 * (m.toNat / 16) + m.toNat % 16) + cin.toNat
      (BitVec.ofNat 8 (k % 100 / 10 * 16 + k % 100 % 10), decide (99 < k)) := by
  have hcin := cin.toNat_le
  rw [bcdAddNmos_eq]
  generalize a.toNat / 16 = ah, a.toNat % 16 = al, m.toNat / 16 = mh, m.toNat % 16 = ml, cin.toNat = c at *
  have hdigits : ∃ q r, q < 20 ∧ r < 10 ∧
      (ah * 16 + mh * 16 + if 10 ≤ al + ml + c then (al + ml + c + 6) % 16 + 16 else al + ml + c) = 16 * q + r ∧
      10 * ah + al + (10 * mh + ml) + c = 10 * q + r := by
    by_cases hcarry : 10 ≤ al + ml + c
    · rw [if_pos hcarry]
      exact ⟨ah + mh + 1, al + ml + c - 10, by omega⟩
    · rw [if_neg hcarry]
      exact ⟨ah + mh, al + ml + c, by omega⟩
  obtain ⟨q, r, hq, hr, hbin, hdec⟩ := hdigits
  obtain ⟨htens, hones, hhundred⟩ := decimal_digits hq hr
  simp only [hbin, hdec, htens, hones, hhundred]
  by_cases hten : 10 ≤ q
  · rw [if_pos (show 160 ≤ 16 * q + r by omega), if_pos hten, decide_eq_true hten,
      show (16 * q + r + 96) % 256 = (q - 10) * 16 + r by omega]
  · rw [if_neg (show ¬ 160 ≤ 16 * q + r by omega), if_neg hten, decide_eq_false hten,
      show (16 * q + r) % 256 = q * 16 + r by omega]

/-- Settles O36: with D = 1 the effect writes A and C of `BCD_ADD`, which on valid digits is the decimal sum. -/
theorem adcDecimalSum : Obligations.AdcDecimalSum := by
  intro i src s hform hready hd m t signed r
  refine ⟨?_, fun ha ha' hm hm' => ?_, fun hnmos => ?_⟩
  · have hd' : (s.tick (sourceCost src s)).d = true := hd
    rw [exec_read_ready hform hready, readEffect, State.adc, if_pos hd', State.setNZ_addResult]
    rfl
  · exact (bcdAdd_of_not_open (bcdOpen_of_valid s.cfg ⟨ha, ha'⟩ ⟨hm, hm'⟩) s.c).trans
      (bcdAddNmos_of_valid ⟨ha, ha'⟩ ⟨hm, hm'⟩ s.c)
  · exact (bcdAdd_of_not_open (bcdOpen_of_nmos hnmos s.a m) s.c).trans (bcdAddNmos_eq s.a m s.c)

/-! ## Binary subtraction -/

theorem byte_ofInt_emod (t : Int) : BitVec.ofInt 8 (t % 256) = BitVec.ofInt 8 t := by
  apply BitVec.eq_of_toInt_eq
  rw [BitVec.toInt_ofInt, BitVec.toInt_ofInt]
  exact Int.emod_bmod t 256

theorem byte_ofInt_toNat (t : Int) : ((BitVec.ofInt 8 t).toNat : Int) = t % 256 := by
  rw [BitVec.toNat_ofInt]
  omega

/-- `SetNZ` of a result given as an integer (10_state.md R19). -/
theorem State.setNZ_ofInt (t : Int) (s : State) :
    s.setNZ (BitVec.ofInt 8 t) = { s with z := decide (t % 256 = 0), n := decide (128 ≤ t % 256) } := by
  have hz : ((BitVec.ofInt 8 t).toNat = 0) ↔ t % 256 = 0 := by rw [← byte_ofInt_toNat]; omega
  have hn : (128 ≤ (BitVec.ofInt 8 t).toNat) ↔ 128 ≤ t % 256 := by rw [← byte_ofInt_toNat]; omega
  rw [State.setNZ_eq]
  simp only [hz, hn]

/-- The rule of signs of R152 says that the signed difference is out of range. -/
theorem subOverflow_eq_decide (a m : Byte) (cin : Bool) :
    subOverflow a m cin =
      decide (a.toInt - m.toInt - (1 - cin.toNat) < -128 ∨ 127 < a.toInt - m.toInt - (1 - cin.toNat)) := by
  have hcin := cin.toNat_le
  have ha := a.isLt
  have hm := m.isLt
  have hresult := byte_ofInt_toNat (subTotal a m cin)
  rw [← subResult] at hresult
  rw [subOverflow, BitVec.msb_eq_decide, BitVec.msb_eq_decide, BitVec.msb_eq_decide, byte_toInt_eq_ite,
    byte_toInt_eq_ite, Bool.eq_iff_iff]
  rw [subTotal] at hresult
  simp only [Bool.and_eq_true, bne_iff_ne, ne_eq, decide_eq_decide, decide_eq_true_eq]
  split <;> split <;> omega

/-- Z, N and V of a subtraction, in both modes (R152). -/
theorem State.setNZ_subResult (m : Byte) (s : State) :
    (s.setNZ (subResult s.a m s.c)).setV (subOverflow s.a m s.c) = { s with
      z := decide (subTotal s.a m s.c % 256 = 0), n := decide (128 ≤ subTotal s.a m s.c % 256),
      v := decide (s.a.toInt - m.toInt - (1 - s.c.toNat) < -128 ∨ 127 < s.a.toInt - m.toInt - (1 - s.c.toNat)) } := by
  rw [subOverflow_eq_decide, subResult, State.setNZ_ofInt]
  rfl

/-- Settles O37: with D = 0 the effect writes the difference and its no-borrow after Z, N and V. -/
theorem sbcBinaryDifference : Obligations.SbcBinaryDifference := by
  intro i src s hform hready hd m t signed
  have hd' : ¬ (s.tick (sourceCost src s)).d = true := by simp [hd]
  rw [exec_read_ready hform hready, readEffect, State.sbc, if_neg hd', State.setNZ_subResult, subResult,
    ← byte_ofInt_emod]
  rfl

/-! ## Decimal subtraction -/

theorem bcdSub_of_not_open {cfg : Config} {a m : Byte} (h : bcdOpen cfg a m = false) (cin : Bool) :
    bcdSub cfg a m cin = bcdSubNmos a m cin := by
  rw [bcdSub, h, if_neg Bool.false_ne_true]

/-- The digit correction in integers, its byte taken modulo 256 (R153). -/
theorem bcdSubNmos_eq (a m : Byte) (cin : Bool) :
    bcdSubNmos a m cin =
      let al : Int := (a.toNat % 16 : Nat) - (m.toNat % 16 : Nat) + cin.toNat - 1
      let k := (a.toNat / 16 * 16 : Nat) - (m.toNat / 16 * 16 : Nat) + if al < 0 then (al - 6) % 16 - 16 else al
      if k < 0 then (BitVec.ofInt 8 ((k - 96) % 256), false) else (BitVec.ofInt 8 (k % 256), true) := by
  simp only [byte_ofInt_emod]
  rfl

/-- The carry of the correction is that of the binary difference, on all operands. -/
theorem bcdSubNmos_carry (a m : Byte) (cin : Bool) : (bcdSubNmos a m cin).2 = decide (0 ≤ subTotal a m cin) := by
  have hcin := cin.toNat_le
  rw [bcdSubNmos_eq, subTotal]
  simp only
  split <;> split <;>
    simp only [Bool.true_eq, Bool.false_eq, decide_eq_true_eq, decide_eq_false_iff_not] <;> omega

/-- The tens and ones modulo 100 of a number from -100 on below 100. -/
theorem decimal_digits_int {q r : Int} (hlow : -10 ≤ q) (hhigh : q < 10) (hr : 0 ≤ r) (hr' : r < 10) :
    (10 * q + r) % 100 / 10 = (if q < 0 then q + 10 else q) ∧ (10 * q + r) % 100 % 10 = r ∧
      (0 ≤ 10 * q + r ↔ ¬ q < 0) := by
  split <;> omega

/-- On valid digits the correction is the decimal difference, low digit first (R153): the digits borrowed from 16 and
from 10 are the same `q` and `r`. -/
theorem bcdSubNmos_of_valid {a m : Byte} (ha : a.toNat / 16 ≤ 9 ∧ a.toNat % 16 ≤ 9)
    (hm : m.toNat / 16 ≤ 9 ∧ m.toNat % 16 ≤ 9) (cin : Bool) :
    bcdSubNmos a m cin =
      let k : Int := (10 * (a.toNat / 16) + a.toNat % 16 : Nat) - (10 * (m.toNat / 16) + m.toNat % 16 : Nat) -
        (1 - cin.toNat)
      (BitVec.ofInt 8 (k % 100 / 10 * 16 + k % 100 % 10), decide (0 ≤ k)) := by
  have hcin := cin.toNat_le
  rw [bcdSubNmos_eq]
  generalize a.toNat / 16 = ah, a.toNat % 16 = al, m.toNat / 16 = mh, m.toNat % 16 = ml, cin.toNat = c at *
  have hdigits : ∃ q r : Int, -10 ≤ q ∧ q < 10 ∧ 0 ≤ r ∧ r < 10 ∧
      (((ah * 16 : Nat) : Int) - (mh * 16 : Nat) +
        if (al : Int) - ml + c - 1 < 0 then ((al : Int) - ml + c - 1 - 6) % 16 - 16 else (al : Int) - ml + c - 1) =
        16 * q + r ∧
      ((10 * ah + al : Nat) : Int) - (10 * mh + ml : Nat) - (1 - c) = 10 * q + r := by
    by_cases hborrow : (al : Int) - ml + c - 1 < 0
    · rw [if_pos hborrow]
      exact ⟨(ah : Int) - mh - 1, (al : Int) - ml + c + 9, by omega⟩
    · rw [if_neg hborrow]
      exact ⟨(ah : Int) - mh, (al : Int) - ml + c - 1, by omega⟩
  obtain ⟨q, r, hlow, hhigh, hr, hr', hbin, hdec⟩ := hdigits
  obtain ⟨htens, hones, hsign⟩ := decimal_digits_int hlow hhigh hr hr'
  simp only [hbin, hdec, htens, hones, hsign]
  by_cases hneg : q < 0
  · rw [if_pos (show 16 * q + r < 0 by omega), if_pos hneg, decide_eq_false (not_not_intro hneg),
      show (16 * q + r - 96) % 256 = (q + 10) * 16 + r by omega]
  · rw [if_neg (show ¬ 16 * q + r < 0 by omega), if_neg hneg, decide_eq_true hneg,
      show (16 * q + r) % 256 = q * 16 + r by omega]

/-- Settles O38: with D = 1 the effect writes A and C of `BCD_SUB`, which on valid digits is the decimal difference. -/
theorem sbcDecimalDifference : Obligations.SbcDecimalDifference := by
  intro i src s hform hready hd m t signed r
  refine ⟨?_, fun ha ha' hm hm' => ?_, fun hnmos => ?_⟩
  · have hd' : (s.tick (sourceCost src s)).d = true := hd
    rw [exec_read_ready hform hready, readEffect, State.sbc, if_pos hd', State.setNZ_subResult]
    rfl
  · exact (bcdSub_of_not_open (bcdOpen_of_valid s.cfg ⟨ha, ha'⟩ ⟨hm, hm'⟩) s.c).trans
      (bcdSubNmos_of_valid ⟨ha, ha'⟩ ⟨hm, hm'⟩ s.c)
  · have hr : r = bcdSubNmos s.a m s.c := bcdSub_of_not_open (bcdOpen_of_nmos hnmos s.a m) s.c
    rw [hr]
    exact ⟨bcdSubNmos_eq s.a m s.c, bcdSubNmos_carry s.a m s.c⟩

/-! ## Compares -/

/-- Z is equality, N bit 7 of the wrapping difference, C the unsigned order (R164). -/
theorem State.compare_eq (reg m : Byte) (s : State) :
    s.compare reg m = { s with
      z := decide (reg = m), n := decide (128 ≤ (reg.toNat + 256 - m.toNat) % 256),
      c := decide (m.toNat ≤ reg.toNat) } := by
  have hreg := reg.isLt
  have hm := m.isLt
  have hsub : (reg - m).toNat = (reg.toNat + 256 - m.toNat) % 256 := by bv_omega
  have hz : ((reg.toNat + 256 - m.toNat) % 256 = 0) ↔ reg = m := by
    rw [BitVec.toNat_eq]
    omega
  rw [State.compare, State.setNZ_eq, hsub]
  simp only [hz]
  rfl

/-- Settles O39: the three compares are one effect on their register. -/
theorem comparesSetNZC : Obligations.ComparesSetNZC := by
  intro i op src s reg hform hready hreg m
  have heffect (t : State) (ht : t.a = s.a ∧ t.x = s.x ∧ t.y = s.y) : readEffect op m t = t.compare reg m := by
    obtain ⟨ha, hx, hy⟩ := ht
    rcases hreg with ⟨rfl, rfl⟩ | ⟨rfl, rfl⟩ | ⟨rfl, rfl⟩
    · simp only [readEffect, ha]
    · simp only [readEffect, hx]
    · simp only [readEffect, hy]
  rw [exec_read_ready hform hready, heffect (s.tick (sourceCost src s)) ⟨rfl, rfl, rfl⟩, State.compare_eq]
  rfl

/-! ## Logical operations and BIT -/

/-- `SetNZ` with Z as equality with 0 and N as bit 7. -/
theorem State.setNZ_eq_bits (w : Byte) (s : State) : s.setNZ w = { s with z := decide (w = 0), n := w.getLsbD 7 } := by
  rw [State.setNZ_eq_getLsbD]
  simp only [BitVec.toNat_eq]
  rfl

/-- Settles O41: Z and N of a bitwise result, bit by bit; BIT writes its three flags and no register. -/
theorem logicalOperationsAndBit : Obligations.LogicalOperationsAndBit := by
  intro i src s hready m cost
  refine ⟨fun hform => ?_, fun hform => ?_, fun hform => ?_, fun hform => ?_⟩
  · simp only [exec_read_ready hform hready, readEffect, State.setNZ_eq_bits, BitVec.getLsbD_and]
    rfl
  · have hz : decide (s.a ||| m = 0) = decide (s.a = 0 ∧ m = 0) := decide_eq_decide.mpr BitVec.or_eq_zero_iff
    rw [← hz]
    simp only [exec_read_ready hform hready, readEffect, State.setNZ_eq_bits, BitVec.getLsbD_or]
    rfl
  · have hz : decide (s.a ^^^ m = 0) = decide (s.a = m) := decide_eq_decide.mpr BitVec.xor_eq_zero_iff
    rw [← hz]
    simp only [exec_read_ready hform hready, readEffect, State.setNZ_eq_bits, BitVec.getLsbD_xor]
    rfl
  · rw [exec_read_ready hform hready]
    rfl

end Sys2Proof.Machine
end

section
/-! SUPPORT. The instructions that read one operand byte, wherever the read lands: what they change, and what a refused
read leaves (41_addressing_modes.md R128, 60_exceptions.md R231). -/

namespace Sys2Proof.Machine

/-! ## Reads that answer -/

theorem ReadsOnly.exists_eq {s t : State} (h : ReadsOnly s t) :
    ∃ cyc deviceLog, t = { s with cyc := cyc, deviceLog := deviceLog } :=
  ⟨_, _, h⟩

theorem WritesOnly.exists_eq {s t : State} (h : WritesOnly s t) :
    ∃ mem cyc deviceLog, t = { s with mem := mem, cyc := cyc, deviceLog := deviceLog } :=
  ⟨_, _, _, h⟩

/-- A read-type instruction that answers is its effect after reads that changed CYC and the device history. -/
theorem exec_read_next {i : Instr} {op : ReadOp} {src : Source} {s t : State} (h : i.form = .read op src)
    (hexec : exec i s = .next t) : ∃ w u, ReadsOnly s u ∧ t = readEffect op w u := by
  rw [exec_of_form_read h] at hexec
  obtain ⟨w, u, hload, hnext⟩ := bindVal_eq_next.mp hexec
  cases hnext
  exact ⟨w, u, loadOperand_readsOnly hload, rfl⟩

theorem readEffect_mem (op : ReadOp) (w : Byte) (s : State) : (readEffect op w s).mem = s.mem := by
  cases op with
  | adc => simp only [readEffect, State.adc]; split <;> rfl
  | sbc => simp only [readEffect, State.sbc]; split <;> rfl
  | _ => rfl

/-- Settles O52: each effect writes its own register and flags; the reads before it write neither. -/
theorem readInstructionsFrame : Obligations.ReadInstructionsFrame := by
  intro i op src s t hform hexec
  obtain ⟨w, u, hreads, rfl⟩ := exec_read_next hform hexec
  obtain ⟨cyc, deviceLog, rfl⟩ := hreads.exists_eq
  constructor
  · cases op with
    | adc => simp only [readEffect, State.adc]; split <;> rfl
    | sbc => simp only [readEffect, State.sbc]; split <;> rfl
    | _ => rfl
  · intro addr
    rw [State.peek, readEffect_mem]
    rfl

/-! ## Accesses that are refused -/

/-- A bus access refused after nothing but CYC and the device history had changed. -/
def RefusedFrom (s : State) (f : Fault) : Prop := ∃ addr t, ReadsOnly s t ∧ f = .memoryFault addr t.markFault

theorem RefusedFrom.left_eq {s : State} {f : Fault} (h : RefusedFrom s f) :
    f.left = { s with cyc := f.left.cyc, deviceLog := f.left.deviceLog, faultMark := true } := by
  obtain ⟨addr, t, ht, rfl⟩ := h
  obtain ⟨cyc, deviceLog, rfl⟩ := ht.exists_eq
  rfl

theorem RefusedFrom.after {s t : State} {f : Fault} (hs : ReadsOnly s t) (h : RefusedFrom t f) : RefusedFrom s f := by
  obtain ⟨addr, u, hu, hf⟩ := h
  exact ⟨addr, u, hs.trans hu, hf⟩

theorem memRead_fault {s : State} {addr : Word} {f : Fault} (h : memRead addr s = .fault f) : RefusedFrom s f := by
  unfold memRead at h
  split at h
  · cases h
  · cases h
  · cases h; exact ⟨addr, s, .refl s, rfl⟩
  · cases h; exact ⟨addr, s, .refl s, rfl⟩
  · split at h
    · cases h
    · cases h; exact ⟨addr, s.logAccess _, rfl, rfl⟩

theorem memWrite_fault {s : State} {addr : Word} {w : Byte} {f : Fault} (h : memWrite addr w s = .fault f) :
    RefusedFrom s f := by
  unfold memWrite at h
  split at h
  · cases h
  · cases h
  · cases h; exact ⟨addr, s, .refl s, rfl⟩
  · cases h; exact ⟨addr, s, .refl s, rfl⟩
  · split at h
    · cases h
    · cases h; exact ⟨addr, s.logAccess _, rfl, rfl⟩

theorem readPair_fault {s : State} {lo hi : Word} {f : Fault} (h : readPair lo hi s = .fault f) : RefusedFrom s f := by
  rcases bindVal_eq_fault.mp h with h | ⟨_, t, hfirst, h⟩
  · exact memRead_fault h
  rcases bindVal_eq_fault.mp h with h | ⟨_, _, _, h⟩
  · exact (memRead_fault h).after (memRead_readsOnly hfirst)
  · cases h

theorem resolve_fault {m : AddrMode} {s : State} {f : Fault} (h : resolve m s = .fault f) : RefusedFrom s f := by
  cases m with
  | ind w => exact readPair_fault h
  | izx b => exact readPair_fault h
  | izy b =>
    rw [resolve] at h
    rcases bindVal_eq_fault.mp h with h | ⟨_, _, _, h⟩
    · exact readPair_fault h
    · cases h
  | _ => cases h

theorem loadOperand_fault {src : Source} {s : State} {f : Fault} (h : loadOperand src s = .fault f) :
    RefusedFrom s f := by
  cases src with
  | imm w => cases h
  | mem m =>
    rcases bindVal_eq_fault.mp h with h | ⟨_, _, hresolve, h⟩
    · exact resolve_fault h
    · exact (memRead_fault h).after (resolve_readsOnly hresolve)

/-! ## What never refuses -/

theorem next_ne_refused {α : Type} {p : α} {f : Refusal} : (.next p : Result α) ≠ .refused f := nofun

theorem bindVal_ne_refused {α β : Type} {r : Result (α × State)} {k : α → State → Result β}
    (hr : ∀ f, r ≠ .refused f) (hk : ∀ a t f, k a t ≠ .refused f) (f : Refusal) : bindVal r k ≠ .refused f := by
  cases r with
  | next p => exact hk p.1 p.2 f
  | fault f => exact nofun
  | refused f' => exact absurd rfl (hr f')

theorem memRead_ne_refused (addr : Word) (s : State) (f : Refusal) : memRead addr s ≠ .refused f := by
  unfold memRead
  split
  · exact nofun
  · exact nofun
  · exact nofun
  · exact nofun
  · split <;> exact nofun

theorem readPair_ne_refused (lo hi : Word) (s : State) (f : Refusal) : readPair lo hi s ≠ .refused f :=
  bindVal_ne_refused (memRead_ne_refused lo s)
    (fun _ t => bindVal_ne_refused (memRead_ne_refused hi t) fun _ _ _ => next_ne_refused) f

theorem resolve_ne_refused (m : AddrMode) (s : State) (f : Refusal) : resolve m s ≠ .refused f := by
  cases m with
  | ind w => exact readPair_ne_refused _ _ s f
  | izx b => exact readPair_ne_refused _ _ s f
  | izy b =>
    rw [resolve]
    exact bindVal_ne_refused (readPair_ne_refused _ _ s) (fun _ _ _ => next_ne_refused) f
  | _ => exact nofun

theorem loadOperand_ne_refused (src : Source) (s : State) (f : Refusal) : loadOperand src s ≠ .refused f := by
  cases src with
  | imm w => exact nofun
  | mem m => exact bindVal_ne_refused (resolve_ne_refused m s) (fun ea t => memRead_ne_refused ea t) f

/-- Settles O53: the instruction is its effect on what the operand's reads answer, and a fault is theirs. -/
theorem operandComesFromTheBus : Obligations.OperandComesFromTheBus := by
  intro i op src s hform
  rw [exec_of_form_read hform, readWith]
  refine ⟨fun w t hload => ?_, fun w t hload hop => ?_, fun f hload => ?_, ?_⟩
  · rw [hload, bindVal_next]
    refine ⟨⟨_, rfl⟩, fun j hj => ?_⟩
    rw [exec_of_form_read hj, readWith, loadOperand, bindVal_next]
  · have ha : t.a = s.a := by rw [loadOperand_readsOnly hload]
    rw [hload, bindVal_next, hop, ← ha]
    rfl
  · have hrefused := loadOperand_fault hload
    refine ⟨by rw [hload, bindVal_fault], ?_, hrefused.left_eq⟩
    obtain ⟨addr, t, -, rfl⟩ := hrefused
    exact ⟨addr, rfl⟩
  · exact bindVal_ne_refused (loadOperand_ne_refused src s) fun _ _ _ => next_ne_refused

end Sys2Proof.Machine
end

section
/-! SUPPORT. Stores and read-modify-write instructions: the byte they write in integers, the one write they make, and
what differs afterwards, wherever their accesses land (42_load_store_transfer.md R133 to R135,
43_arithmetic_compare.md R157, R158, 44_logical_shift.md R174 to R178). -/

namespace Sys2Proof.Machine

/-! ## Stores -/

theorem exec_of_form_store {i : Instr} {op : StoreOp} {m : AddrMode} (h : i.form = .store op m) (s : State) :
    exec i s = storeOperand m (storedRegister op s) s := by
  rw [exec_eq_runForm, h, runForm]

/-- Settles O33: after the resolver a store is one write of its register. -/
theorem storesWriteOneByte : Obligations.StoresWriteOneByte := by
  intro i op m s hform w
  have hw : storedRegister op s = w := by cases op <;> rfl
  rw [exec_of_form_store hform, hw]
  refine ⟨fun ea u hresolve => ?_, fun f hresolve => ?_, fun hpointer hwritable => ?_⟩
  · rw [storeOperand, hresolve, bindVal_next]
  · rw [storeOperand, hresolve, bindVal_fault]
  · rw [storeOperand_ready hpointer hwritable]
    rfl

/-- Settles O54: the write reaches its own address only; a refusal, of a pointer read or of the write, reaches none. -/
theorem storesFrame : Obligations.StoresFrame := by
  intro i op m s hform hm
  rw [exec_of_form_store hform]
  refine ⟨fun ea u t hresolve hexec => ⟨storeOperand_writesOnly hexec, fun addr hne => ?_⟩, fun f hexec => ?_⟩
  · rw [storeOperand, hresolve, bindVal_next] at hexec
    obtain ⟨cyc, deviceLog, rfl⟩ := (resolve_readsOnly hresolve).exists_eq
    exact memWrite_peek (s := { s with cyc := cyc, deviceLog := deviceLog }) hm hexec hne
  · rcases bindVal_eq_fault.mp hexec with h | ⟨ea, u, hresolve, h⟩
    · exact (resolve_fault h).left_eq
    · exact ((memWrite_fault h).after (resolve_readsOnly hresolve)).left_eq

/-! ## The functions of the read-modify-write instructions, in integers -/

/-- The new byte. -/
def modifyValue (op : ModifyOp) (old : Nat) (cin : Bool) : Nat :=
  match op with
  | .asl => old * 2 % 256
  | .lsr => old / 2
  | .rol => old * 2 % 256 + cin.toNat
  | .ror => old / 2 + 128 * cin.toNat
  | .inc => (old + 1) % 256
  | .dec => (old + 255) % 256

/-- The new C: the bit shifted out, or the old C where none is. -/
def modifyCarry (op : ModifyOp) (old : Nat) (cin : Bool) : Bool :=
  match op with
  | .asl | .rol => decide (128 ≤ old)
  | .lsr | .ror => decide (old % 2 = 1)
  | .inc | .dec => cin

theorem modifyValue_lt (op : ModifyOp) {old : Nat} (h : old < 256) (cin : Bool) : modifyValue op old cin < 256 := by
  have hcin := cin.toNat_le
  cases op <;> simp only [modifyValue] <;> omega

theorem byte_bit7 (b : Byte) : b.getLsbD 7 = decide (128 ≤ b.toNat) :=
  (BitVec.msb_eq_getLsbD_last b).symm.trans (BitVec.msb_eq_decide b)

theorem byte_bit0 (b : Byte) : b.getLsbD 0 = decide (b.toNat % 2 = 1) :=
  Nat.testBit_zero b.toNat

theorem byte_shiftLeft_toNat (b : Byte) : (b <<< 1).toNat = b.toNat * 2 % 256 := by
  rw [BitVec.toNat_shiftLeft, Nat.shiftLeft_eq]

theorem byte_shiftRight_toNat (b : Byte) : (b >>> 1).toNat = b.toNat / 2 := by
  rw [BitVec.toNat_ushiftRight, Nat.shiftRight_eq_div_pow]

/-- The old carry comes into bit 0, which the shift left cleared (R176). -/
theorem rolValue_toNat (b : Byte) (cin : Bool) : (rolValue b cin).toNat = b.toNat * 2 % 256 + cin.toNat := by
  have hor := Nat.two_pow_add_eq_or_of_lt (i := 1) (b := cin.toNat) (by have := cin.toNat_le; omega) (b.toNat % 128)
  have heven : b.toNat * 2 % 256 = 2 ^ 1 * (b.toNat % 128) := by omega
  have hin : (if cin then (0x01 : Byte) else 0x00).toNat = cin.toNat := by cases cin <;> rfl
  rw [rolValue, BitVec.toNat_or, byte_shiftLeft_toNat, hin, heven, hor]

/-- The old carry comes into bit 7, which the shift right cleared (R177). -/
theorem rorValue_toNat (b : Byte) (cin : Bool) : (rorValue b cin).toNat = b.toNat / 2 + 128 * cin.toNat := by
  have hb := b.isLt
  have hor := Nat.two_pow_add_eq_or_of_lt (i := 7) (b := b.toNat / 2) (by omega) cin.toNat
  have hin : (if cin then (0x80 : Byte) else 0x00).toNat = 2 ^ 7 * cin.toNat := by cases cin <;> rfl
  rw [rorValue, BitVec.toNat_or, byte_shiftRight_toNat, hin, Nat.or_comm, ← hor, Nat.add_comm]

theorem modifyEffect_value (op : ModifyOp) (old : Byte) (s : State) :
    (modifyEffect op old s).1.toNat = modifyValue op old.toNat s.c := by
  cases op with
  | asl => exact byte_shiftLeft_toNat old
  | lsr => exact byte_shiftRight_toNat old
  | rol => exact rolValue_toNat old s.c
  | ror => exact rorValue_toNat old s.c
  | inc => exact BitVec.toNat_add old 1
  | dec =>
    change (old - 1).toNat = (old.toNat + 255) % 256
    bv_omega

/-- All six write C and then Z and N from the new byte; INC and DEC write C as it was. -/
theorem modifyEffect_state (op : ModifyOp) (old : Byte) (s : State) :
    (modifyEffect op old s).2 = (s.setC (modifyCarry op old.toNat s.c)).setNZ (modifyEffect op old s).1 := by
  have h7 := byte_bit7 old
  have h0 := byte_bit0 old
  cases op with
  | asl => simp only [modifyEffect, aslOf, modifyCarry, h7]
  | lsr => simp only [modifyEffect, lsrOf, modifyCarry, h0]
  | rol => simp only [modifyEffect, rolOf, modifyCarry, h7]
  | ror => simp only [modifyEffect, rorOf, modifyCarry, h0]
  | inc => rfl
  | dec => rfl

/-- The new byte and the flags in integers. -/
theorem modifyEffect_eq (op : ModifyOp) (old : Byte) (s : State) :
    modifyEffect op old s =
      (BitVec.ofNat 8 (modifyValue op old.toNat s.c), { s with
        c := modifyCarry op old.toNat s.c, z := decide (modifyValue op old.toNat s.c = 0),
        n := decide (128 ≤ modifyValue op old.toNat s.c) }) := by
  refine Prod.ext ?_ ?_
  · rw [← modifyEffect_value, BitVec.ofNat_toNat, BitVec.setWidth_eq]
  · rw [modifyEffect_state, State.setNZ_eq, modifyEffect_value]
    rfl

/-! ## The accumulator -/

/-- INC and DEC have no accumulator form (30_encoding.md R76). -/
theorem ne_inc_dec_of_form_modifyAcc {i : Instr} {op : ModifyOp} (h : i.form = .modifyAcc op) :
    op ≠ .inc ∧ op ≠ .dec := by
  have hwf := i.wellFormed_eq_true
  rw [Instr.wellFormed, h] at hwf
  constructor <;> rintro rfl <;> exact absurd hwf (by decide)

/-- Settles O42: the shift of A, its flags, and then A written. -/
theorem accumulatorShifts : Obligations.AccumulatorShifts := by
  intro i op s hform old out carry
  obtain ⟨hinc, hdec⟩ := ne_inc_dec_of_form_modifyAcc hform
  have hout : modifyValue op s.a.toNat s.c = out := by
    cases op with
    | inc => exact absurd rfl hinc
    | dec => exact absurd rfl hdec
    | _ => rfl
  have hcarry : modifyCarry op s.a.toNat s.c = carry := by cases op <;> rfl
  rw [exec_eq_runForm, hform, runForm, modifyAccumulator, modifyEffect_eq, hout, hcarry]
  rfl

/-! ## Memory -/

theorem exec_of_form_modify {i : Instr} {op : ModifyOp} {m : AddrMode} (h : i.form = .modify op m) (s : State) :
    exec i s = modifyOperand m (modifyEffect op) s := by
  rw [exec_eq_runForm, h, runForm]

/-- After the address and the byte, the instruction is one write. -/
theorem modifyOperand_of_read {m : AddrMode} (f : Byte → State → Byte × State) {s u v : State} {ea : Word} {old : Byte}
    (hresolve : resolve m s = .next (ea, u)) (hread : memRead ea u = .next (old, v)) :
    modifyOperand m f s = memWrite ea (f old v).1 (f old v).2 := by
  rw [modifyOperand, hresolve, bindVal_next, hread, bindVal_next]

/-- Settles O43: the address, the byte, and one write of the new byte with the flags already written. -/
theorem readModifyWriteMemory : Obligations.ReadModifyWriteMemory := by
  intro i op m s hform out carry
  have hout (old : Nat) : modifyValue op old s.c = out old := by cases op <;> rfl
  have hcarry (old : Nat) : modifyCarry op old s.c = carry old := by cases op <;> rfl
  have hwrite : ∀ ea u old v, resolve m s = .next (ea, u) → memRead ea u = .next (old, v) →
      exec i s = memWrite ea (BitVec.ofNat 8 (out old.toNat)) { v with
        c := carry old.toNat, z := decide (out old.toNat = 0), n := decide (128 ≤ out old.toNat) } := by
    intro ea u old v hresolve hread
    have hc : v.c = s.c := by rw [memRead_readsOnly hread, resolve_readsOnly hresolve]
    rw [exec_of_form_modify hform, modifyOperand_of_read _ hresolve hread, modifyEffect_eq, hc, hout, hcarry]
  refine ⟨hwrite, fun hpointer hreadable hwritable => ?_⟩
  have hread := memRead_readable (s := s.tick (resolveCost m s)) (addr := effAddr m s) hreadable
  rw [hwrite _ _ _ _ (resolve_ready hpointer) hread, memWrite_writable _ (by exact hwritable), State.tick_tick]
  congr 1
  simp only [State.tick, State.poke, State.setMem, BitVec.ofNat_add, BitVec.add_assoc]
  rfl

/-- A read-modify-write that stops, by the access that was refused. -/
theorem modifyOperand_fault {m : AddrMode} {f : Byte → State → Byte × State} {s : State} {e : Fault}
    (h : modifyOperand m f s = .fault e) :
    RefusedFrom s e ∨ ∃ old v, ReadsOnly s v ∧ RefusedFrom (f old v).2 e := by
  rcases bindVal_eq_fault.mp h with h | ⟨ea, u, hresolve, h⟩
  · exact .inl (resolve_fault h)
  rcases bindVal_eq_fault.mp h with h | ⟨old, v, hread, h⟩
  · exact .inl ((memRead_fault h).after (resolve_readsOnly hresolve))
  · exact .inr ⟨old, v, (resolve_readsOnly hresolve).trans (memRead_readsOnly hread), memWrite_fault h⟩

/-- What the six leave: C for the shifts only, Z and N, and what the accesses change. -/
theorem modifyEffect_frame (op : ModifyOp) (old : Byte) (s : State) :
    ∃ z n c, (modifyEffect op old s).2 = { s with
      z := z, n := n, c := if op = .inc ∨ op = .dec then s.c else c } := by
  refine ⟨(modifyEffect op old s).2.z, (modifyEffect op old s).2.n, (modifyEffect op old s).2.c, ?_⟩
  cases op <;> rfl

theorem modifyOperand_frame {op : ModifyOp} {m : AddrMode} {s t : State}
    (h : modifyOperand m (modifyEffect op) s = .next t) :
    t = { s with
      mem := t.mem, z := t.z, n := t.n, c := if op = .inc ∨ op = .dec then s.c else t.c,
      cyc := t.cyc, deviceLog := t.deviceLog } := by
  obtain ⟨old, u, hreads, hwrites⟩ := modifyOperand_next h
  obtain ⟨cyc, deviceLog, rfl⟩ := hreads.exists_eq
  obtain ⟨z, n, c, heffect⟩ := modifyEffect_frame op old { s with cyc := cyc, deviceLog := deviceLog }
  rw [heffect] at hwrites
  obtain ⟨mem, cyc', deviceLog', rfl⟩ := hwrites.exists_eq
  cases op <;> rfl

/-! ## A write refused by plain memory -/

/-- With no regions every address is plain RAM (log 7). -/
theorem pointerReadable_of_no_regions (m : AddrMode) (s : State) :
    pointerReadable m { s with regions := [] } = true := by
  cases m <;> rfl

/-- The closed forms of an address do not look at the region map. -/
theorem effAddr_regions (m : AddrMode) (s : State) (regions : List Region) :
    effAddr m { s with regions := regions } = effAddr m s ∧
      resolveCost m { s with regions := regions } = resolveCost m s := by
  cases m <;> exact ⟨rfl, rfl⟩

/-- The instruction on a memory that takes every access. -/
theorem exec_modify_no_regions {i : Instr} {op : ModifyOp} {m : AddrMode} {s : State} (h : i.form = .modify op m) :
    exec i { s with regions := [] } = .next
      (((modifyEffect op (s.peek (effAddr m s)) (State.tick (resolveCost m s + 1) { s with regions := [] })).2.poke
        (effAddr m s) (modifyEffect op (s.peek (effAddr m s)) (s.tick (resolveCost m s + 1))).1).tick 1) := by
  obtain ⟨haddr, hcost⟩ := effAddr_regions m s []
  rw [exec_of_form_modify h, modifyOperand_ready _ (pointerReadable_of_no_regions m s) rfl
    (by cases op <;> rfl), haddr, hcost]
  cases op <;> rfl

/-- The instruction where plain memory refuses the write: the flags are written, the byte is not. -/
theorem exec_modify_rom {i : Instr} {op : ModifyOp} {m : AddrMode} {s : State} (h : i.form = .modify op m)
    (hpointer : pointerReadable m s = true) (hrom : s.kindAt (effAddr m s) = .rom) :
    exec i s = .fault (.memoryFault (effAddr m s)
      (modifyEffect op (s.peek (effAddr m s)) (s.tick (resolveCost m s + 1))).2.markFault) := by
  have hreadable : (s.tick (resolveCost m s)).readable (effAddr m s) = true := by simp [State.readable, hrom]
  have hrefused : s.refusesWrite (effAddr m s) = true := by simp [State.refusesWrite, hrom]
  rw [exec_of_form_modify h, modifyOperand_of_read _ (resolve_ready hpointer) (memRead_readable hreadable),
    State.tick_tick, State.peek_tick, memWrite_refused _ (by cases op <;> exact hrefused)]

/-- Settles O55: the one write reaches its own address; a refused read comes before the flags, a refused write after
them. -/
theorem readModifyWriteFrame : Obligations.ReadModifyWriteFrame := by
  intro i op m s hform hm
  refine ⟨fun ea u t hresolve hexec => ?_, fun f hexec => ?_, fun f hread => ?_, fun t hpointer hrom hexec => ?_⟩
  · rw [exec_of_form_modify hform] at hexec
    refine ⟨modifyOperand_frame hexec, fun addr hne => ?_⟩
    rw [modifyOperand, hresolve, bindVal_next] at hexec
    obtain ⟨old, v, hread, hwrite⟩ := bindVal_eq_next.mp hexec
    have hmem : (modifyEffect op old v).2.mem = s.mem := by
      rw [modifyEffect_state, memRead_readsOnly hread, resolve_readsOnly hresolve]
      rfl
    rw [memWrite_peek (hmem ▸ hm) hwrite hne, State.peek, hmem, State.peek]
  · rw [exec_of_form_modify hform] at hexec
    rcases modifyOperand_fault hexec with h | ⟨old, v, hreads, h⟩
    · rw [h.left_eq]
      simp only [ite_self]
    · obtain ⟨cyc, deviceLog, rfl⟩ := hreads.exists_eq
      obtain ⟨z, n, c, heffect⟩ := modifyEffect_frame op old { s with cyc := cyc, deviceLog := deviceLog }
      rw [heffect] at h
      rw [h.left_eq]
      cases op <;> rfl
  · rw [exec_of_form_modify hform, modifyOperand]
    rcases hread with h | ⟨ea, u, hresolve, h⟩
    · exact ⟨by rw [h, bindVal_fault], (resolve_fault h).left_eq⟩
    · refine ⟨by rw [hresolve, bindVal_next, h, bindVal_fault], ?_⟩
      exact ((memRead_fault h).after (resolve_readsOnly hresolve)).left_eq
  · cases (exec_modify_no_regions hform).symm.trans hexec
    rw [exec_modify_rom hform hpointer hrom]
    simp [modifyEffect_eq, State.poke, State.setMem, State.tick, State.markFault]

end Sys2Proof.Machine
end

section
/-! SUPPORT. The stack instructions, the jumps, JSR and RTS: one push or pull each, on plain memory and refused, and
what a pull gives back after a push (45_stack_flag_nop.md R190 to R193, 46_control_flow.md R219 to R221). -/

namespace Sys2Proof.Machine

/-! ## The meanings, by the shared operation -/

section
variable (s : State)

theorem exec_phaImp : exec .phaImp s = push s.a s := rfl

theorem exec_phpImp : exec .phpImp s = push s.packed s := rfl

theorem exec_plaImp : exec .plaImp s = bindVal (pull s) fun w t => .next ((t.setA w).setNZ w) := rfl

theorem exec_plpImp : exec .plpImp s = bindVal (pull s) fun w t => .next (t.unpack w) := rfl

theorem exec_jmpAbs (w : Word) : exec (.jmpAbs w) s = .next { s with pc := w } := rfl

theorem exec_jmpInd (w : Word) :
    exec (.jmpInd w) s = bindVal (readPair w (indHighAddr w) s) fun target t => .next (t.setPC target) := rfl

theorem exec_jsrAbs (w : Word) : exec (.jsrAbs w) s = seq (push16 (s.pc - 1) s) fun t => .next (t.setPC w) := rfl

theorem exec_rtsImp : exec .rtsImp s = bindVal (pull16 s) fun w t => .next (t.setPC (w + 1)) := rfl

end

/-! ## The operand bytes of a word -/

theorem loByte_eq_ofNat (w : Word) : loByte w = BitVec.ofNat 8 (w.toNat % 256) := by
  rw [← loByte_toNat, BitVec.ofNat_toNat, BitVec.setWidth_eq]

theorem hiByte_eq_ofNat (w : Word) : hiByte w = BitVec.ofNat 8 (w.toNat / 256) := by
  rw [← hiByte_toNat, BitVec.ofNat_toNat, BitVec.setWidth_eq]

/-- The place a pull reads, in integers (41_addressing_modes.md R125). -/
theorem stackAddr_add_eq_ofNat (sp k : Byte) :
    stackAddr (sp + k) = BitVec.ofNat 16 (256 + (sp.toNat + k.toNat) % 256) := by
  rw [stackAddr_eq_ofNat, BitVec.toNat_add]

/-! ## Pushes and pulls of one byte -/

/-- Settles O44: each is one push, plain or refused. -/
theorem phaAndPhpPushOneByte : Obligations.PhaAndPhpPushOneByte := by
  refine ⟨⟨rfl, rfl, by decide⟩, fun s => ⟨rfl, rfl, fun hwritable => ?_, fun hrefused => ?_⟩⟩
  · rw [← stackAddr_eq_ofNat] at hwritable ⊢
    rw [exec_phaImp, exec_phpImp, push_ready _ hwritable, push_ready _ hwritable]
    exact ⟨rfl, rfl⟩
  · rw [← stackAddr_eq_ofNat] at hrefused ⊢
    rw [exec_phaImp, exec_phpImp, push_refused _ hrefused, push_refused _ hrefused]
    exact ⟨rfl, rfl⟩

/-- Settles O45: each is one pull, plain or refused, and what it writes of the byte. -/
theorem plaAndPlpPullOneByte : Obligations.PlaAndPlpPullOneByte := by
  refine ⟨⟨rfl, rfl, by decide⟩, fun s => ?_⟩
  have hpulled : ∀ w t, pull s = .next (w, t) →
      exec .plaImp s = .next { t with a := w, z := decide (w.toNat = 0), n := w.getLsbD 7 } ∧
      exec .plpImp s = .next (t.unpack w) := by
    intro w t hpull
    rw [exec_plaImp, exec_plpImp, hpull, bindVal_next, bindVal_next, State.setNZ_eq_getLsbD]
    exact ⟨rfl, rfl⟩
  have hstopped : ∀ f, pull s = .fault f → exec .plaImp s = .fault f ∧ exec .plpImp s = .fault f := by
    intro f hpull
    rw [exec_plaImp, exec_plpImp, hpull, bindVal_fault, bindVal_fault]
    exact ⟨rfl, rfl⟩
  refine ⟨hpulled, hstopped, fun hreadable => ?_, fun hrefused => ?_⟩
  · have hplace := stackAddr_add_eq_ofNat s.sp 1
    exact hplace ▸ hpulled _ _ (pull_ready (hplace ▸ hreadable))
  · have hplace := stackAddr_add_eq_ofNat s.sp 1
    exact hplace ▸ hstopped _ (pull_refused (hplace ▸ hrefused))

/-! ## Jumps -/

/-- Settles O49: JMP ABS reads nothing; JMP IND is the two reads of its pointer. -/
theorem jumpsLoadPc : Obligations.JumpsLoadPc := by
  intro w s
  rw [← indHighAddr_eq_ofNat, ← loByte_eq_ofNat, ← hiByte_eq_ofNat]
  refine ⟨exec_jmpAbs s w, fun hlo hhi => ?_, fun lo t hlo => ⟨fun hi u hhi => ?_, fun f hhi => ?_⟩, fun f hlo => ?_,
    rfl, rfl⟩
  · rw [exec_jmpInd, readPair_ready hlo hhi, bindVal_next]
    rfl
  · rw [exec_jmpInd, readPair, hlo, bindVal_next, hhi, bindVal_next, bindVal_next, State.setPC]
  · rw [exec_jmpInd, readPair, hlo, bindVal_next, hhi, bindVal_fault, bindVal_fault]
  · rw [exec_jmpInd, readPair, hlo, bindVal_fault, bindVal_fault]

/-- Settles O50: JSR is one push of a word, plain or refused at either byte. -/
theorem jsrPushesItsLastByteAddress : Obligations.JsrPushesItsLastByteAddress := by
  intro target s
  rw [← loByte_eq_ofNat, ← hiByte_eq_ofNat]
  refine ⟨fun hpush => ?_, fun hrefused => ?_, fun hfirst hrefused => ?_, rfl⟩
  · rw [exec_jsrAbs, push16_ready _ hpush, seq_next]
    rfl
  · rw [exec_jsrAbs, push16_first_refused _ hrefused, seq_fault, State.markFault]
  · rw [exec_jsrAbs, push16_second_refused _ hfirst hrefused, seq_fault]
    rfl

theorem State.pullReady_two {s : State} (hlo : s.readable (stackAddr (s.sp + 1)) = true)
    (hhi : s.readable (stackAddr (s.sp + 2)) = true) : s.pullReady 2 = true := by
  have htwo : s.sp + 1 + 1 = s.sp + 2 := BitVec.add_assoc s.sp 1 1
  rw [← htwo] at hhi
  rw [State.pullReady, hlo, Bool.true_and]
  exact State.pullReady_one.trans hhi

theorem word_add_one_eq_ofNat (hi lo : Byte) :
    word hi lo + 1 = BitVec.ofNat 16 ((hi.toNat * 256 + lo.toNat + 1) % 65536) := by
  rw [← word_toNat]
  exact word_add_ofNat (word hi lo) 1

/-- Settles O51: RTS is one pull of a word, plain or refused at either byte. -/
theorem rtsReturnsPastThePulledAddress : Obligations.RtsReturnsPastThePulledAddress := by
  refine ⟨rfl, by decide, fun s => ?_⟩
  have hstopped : ∀ f, pull16 s = .fault f → exec .rtsImp s = .fault f := by
    intro f hpull
    rw [exec_rtsImp, hpull, bindVal_fault]
  have hlo := stackAddr_add_eq_ofNat s.sp 1
  have hhi := stackAddr_add_eq_ofNat s.sp 2
  refine ⟨fun w t hpull => ?_, hstopped, ?_⟩
  · rw [exec_rtsImp, hpull, bindVal_next, State.setPC]
  intro lo hi
  have hlo' : lo = stackAddr (s.sp + 1) := hlo.symm
  have hhi' : hi = stackAddr (s.sp + 2) := hhi.symm
  rw [hlo', hhi']
  refine ⟨fun hfirst hsecond => ?_, fun hrefused => hstopped _ (pull16_first_refused hrefused),
    fun hfirst hrefused => hstopped _ (pull16_second_refused (State.pullReady_one.trans hfirst) hrefused)⟩
  rw [exec_rtsImp, pull16_ready (State.pullReady_two hfirst hsecond), bindVal_next, word_add_one_eq_ofNat]
  rfl

/-! ## Round trips -/

/-- A pull gives back the byte pushed, whatever was done between to all but S, memory and the region map. -/
theorem pull_push {s t u : State} {w : Byte} (hwritable : s.writable (stackAddr s.sp) = true)
    (hreadable : s.readable (stackAddr s.sp) = true) (h : push w s = .next t) (hm : Memory.wf s.mem = true)
    (hsp : u.sp = t.sp) (hmem : u.mem = t.mem) (hregions : u.regions = t.regions) :
    pull u = .next (w, (u.setSP s.sp).tick 1) := by
  cases (push_ready w hwritable).symm.trans h
  have hback : u.sp + 1 = s.sp := by
    rw [hsp]
    exact BitVec.sub_add_cancel s.sp 1
  have htop : u.peek (stackAddr s.sp) = w := by
    rw [State.peek, hmem]
    exact (State.peek_poke hm _ _ _).trans (if_pos rfl)
  rw [← hback] at hreadable
  rw [pull_ready ((State.readable_congr hregions _).trans hreadable), hback, htop]

/-- Unpacking `P()` of a state gives the seven flags of it back. -/
theorem State.unpack_packed (s t : State) :
    t.unpack s.packed = { t with c := s.c, z := s.z, i := s.i, d := s.d, b := s.b, v := s.v, n := s.n } := by
  simp only [State.unpack, State.packed_getLsbD]
  rfl

/-- Settles O47: each is a pull right after the push of the same byte or word. -/
theorem stackRoundTrips : Obligations.StackRoundTrips := by
  intro s t target w hm hpush hpull
  have hwritable : s.writable (stackAddr s.sp) = true := by
    rw [State.pushReady, Bool.and_eq_true] at hpush
    exact hpush.1
  have hreadable : s.readable (stackAddr s.sp) = true := by
    have hback : s.sp - 2 + 1 + 1 = s.sp := by bv_omega
    simp only [State.pullReady, Bool.and_eq_true, State.setSP_sp, hback] at hpull
    exact hpull.2.1
  refine ⟨fun h => ?_, fun h => ?_, fun h => ?_⟩
  · have hpush' : (s.setPC target).pushReady 2 = true := (State.pushReady_congr rfl rfl 2).trans hpush
    rw [exec_jsrAbs, push16_ready _ hpush, seq_next] at h
    have hpushed : push16 (s.pc - 1) (s.setPC target) = .next t := (push16_ready _ hpush').trans h
    have hcyc : s.cyc + 4 = t.cyc + 2 := by
      cases h
      exact (BitVec.add_assoc s.cyc 2 2).symm
    rw [exec_rtsImp, pull16_push16 (s := s.setPC target) hm hpush' hpushed hpull, bindVal_next,
      BitVec.sub_add_cancel, hcyc]
    rfl
  · have hback := pull_push (u := { t with a := w }) hwritable hreadable h hm rfl rfl rfl
    rw [exec_plaImp, hback, bindVal_next, State.setNZ_eq_getLsbD]
    exact ⟨_, rfl, rfl, rfl, rfl, rfl⟩
  · have hback := pull_push (u := t.unpack w) hwritable hreadable h hm rfl rfl rfl
    rw [exec_plpImp, hback, bindVal_next, State.unpack_packed]
    cases (push_ready _ hwritable).symm.trans h
    have hcyc : s.cyc + 1 + 1 = s.cyc + 2 := BitVec.add_assoc s.cyc 1 1
    rw [← hcyc]
    rfl

end Sys2Proof.Machine
end

section
/-! SUPPORT. What the stack instructions change wherever their accesses land: S, the bytes pushed, and the registers they
name (41_addressing_modes.md R125, R129). -/

namespace Sys2Proof.Machine

section
variable {s t : State} {addr : Word} (hm : Memory.wf s.mem = true)
include hm

theorem push_peek {w : Byte} (h : push w s = .next t) (hne : addr ≠ stackAddr s.sp) : t.peek addr = s.peek addr := by
  rw [push, seq_eq_next] at h
  obtain ⟨u, hwrite, hnext⟩ := h
  cases hnext
  exact (State.peek_setSP _ _ _).trans (memWrite_peek hm hwrite hne)

theorem push_wf {w : Byte} (h : push w s = .next t) : Memory.wf t.mem = true := by
  have hkeeps := push_keeps w s
  rw [h] at hkeeps
  exact Keeps.wf hkeeps hm

theorem push16_peek {w : Word} (h : push16 w s = .next t) (hne : addr ∉ [stackAddr s.sp, stackAddr (s.sp - 1)]) :
    t.peek addr = s.peek addr := by
  rw [List.mem_pair, not_or] at hne
  rw [push16, seq_eq_next] at h
  obtain ⟨u, hfirst, hsecond⟩ := h
  have hsp : u.sp = s.sp - 1 := by rw [push_next hfirst]
  rw [push_peek (push_wf hm hfirst) hsecond (hsp ▸ hne.2), push_peek hm hfirst hne.1]

theorem push16_wf {w : Word} (h : push16 w s = .next t) : Memory.wf t.mem = true := by
  have hkeeps := push16_keeps w s
  rw [h] at hkeeps
  exact Keeps.wf hkeeps hm

/-- The vector is read, and the flags a trap writes are no byte of memory. -/
theorem trapEntry_peek {vector : Word} {forcedB : Bool} (h : trapEntry vector forcedB s = .next t)
    (hne : addr ∉ [stackAddr s.sp, stackAddr (s.sp - 1), stackAddr (s.sp - 2)]) : t.peek addr = s.peek addr := by
  simp only [trapEntry, seq_eq_next, bindVal_eq_next] at h
  obtain ⟨u, hword, v, hstatus, target, x, hvector, hnext⟩ := h
  cases hnext
  have hsp : u.sp = s.sp - 2 := by rw [push16_next hword]
  have hflags : x.mem = v.mem := by rw [read16_readsOnly hvector, State.trapFlags_eq]
  have hne3 : addr ≠ stackAddr u.sp := by
    rw [hsp]
    rintro rfl
    simp at hne
  have hne2 : addr ∉ [stackAddr s.sp, stackAddr (s.sp - 1)] := by
    intro hmem
    simp only [List.mem_cons, List.not_mem_nil, or_false, not_or] at hne hmem
    exact hmem.elim hne.1 hne.2.1
  calc (x.setPC target).peek addr = v.peek addr := by rw [State.peek_setPC, State.peek, hflags, State.peek]
    _ = u.peek addr := push_peek (push16_wf hm hword) hstatus hne3
    _ = s.peek addr := push16_peek hm hword hne2

end

/-! ## The registers written -/

section
variable {s t : State}

theorem exec_jsrAbs_next {target : Word} (h : exec (.jsrAbs target) s = .next t) :
    t = { s with sp := s.sp - 2, pc := target, mem := t.mem, cyc := t.cyc, deviceLog := t.deviceLog } := by
  rw [exec_jsrAbs, seq_eq_next] at h
  obtain ⟨u, hpush, hnext⟩ := h
  cases hnext
  rw [push16_next hpush]
  rfl

theorem exec_brkImp_next (h : exec .brkImp s = .next t) :
    t = { s with
      sp := s.sp - 3, pc := t.pc, i := true, b := if s.cfg.bWriteback then true else s.b,
      mem := t.mem, cyc := t.cyc, deviceLog := t.deviceLog } :=
  trapEntry_next (s := s.setPC (s.pc + 1)) h

theorem exec_plaImp_next (h : exec .plaImp s = .next t) :
    t = { s with a := t.a, z := t.z, n := t.n, sp := s.sp + 1, cyc := t.cyc, deviceLog := t.deviceLog } := by
  rw [exec_plaImp, bindVal_eq_next] at h
  obtain ⟨w, u, hpull, hnext⟩ := h
  cases hnext
  rw [pull_next hpull]
  rfl

theorem exec_plpImp_next (h : exec .plpImp s = .next t) :
    t = { s with
      c := t.c, z := t.z, i := t.i, d := t.d, b := t.b, v := t.v, n := t.n,
      sp := s.sp + 1, cyc := t.cyc, deviceLog := t.deviceLog } := by
  rw [exec_plpImp, bindVal_eq_next] at h
  obtain ⟨w, u, hpull, hnext⟩ := h
  cases hnext
  rw [pull_next hpull]
  rfl

theorem exec_rtsImp_next (h : exec .rtsImp s = .next t) :
    t = { s with pc := t.pc, sp := s.sp + 2, cyc := t.cyc, deviceLog := t.deviceLog } := by
  rw [exec_rtsImp, bindVal_eq_next] at h
  obtain ⟨w, u, hpull, hnext⟩ := h
  cases hnext
  rw [pull16_next hpull]
  rfl

end

/-- Settles O56: one, two or three pushes or pulls, and the registers written after them. -/
theorem stackInstructionsFrame : Obligations.StackInstructionsFrame := by
  intro s t hm
  refine ⟨fun h => ?_, fun target h => ⟨exec_jsrAbs_next h, fun addr hne => ?_⟩,
    fun h => ⟨exec_brkImp_next h, fun addr hne => trapEntry_peek (s := s.setPC (s.pc + 1)) hm h hne⟩,
    exec_plaImp_next, exec_plpImp_next, exec_rtsImp_next, fun h => trapReturn_next h⟩
  · rw [exec_phaImp, exec_phpImp] at h
    rcases h with h | h <;> exact ⟨push_next h, fun addr hne => push_peek hm h hne⟩
  · rw [exec_jsrAbs, seq_eq_next] at h
    obtain ⟨u, hpush, hnext⟩ := h
    cases hnext
    exact (State.peek_setPC _ _ _).trans (push16_peek hm hpush hne)

end Sys2Proof.Machine
end

section
/-! SUPPORT. What an instruction that answers can have changed, form by form and wherever its accesses land, and the
writers of each register and flag read off it (the "written by" column of 10_state.md section 1). -/

namespace Sys2Proof.Machine

/-! ## What each form writes

Each frame is the state before with the fields the instruction may write taken from the state after. -/

def readFrame (op : ReadOp) (s t : State) : State :=
  match op with
  | .lda | .and | .ora | .eor => { s with a := t.a, z := t.z, n := t.n, cyc := t.cyc, deviceLog := t.deviceLog }
  | .ldx => { s with x := t.x, z := t.z, n := t.n, cyc := t.cyc, deviceLog := t.deviceLog }
  | .ldy => { s with y := t.y, z := t.z, n := t.n, cyc := t.cyc, deviceLog := t.deviceLog }
  | .adc | .sbc => { s with
      a := t.a, z := t.z, n := t.n, c := t.c, v := t.v, cyc := t.cyc, deviceLog := t.deviceLog }
  | .cmp | .cpx | .cpy => { s with z := t.z, n := t.n, c := t.c, cyc := t.cyc, deviceLog := t.deviceLog }
  | .bit => { s with z := t.z, n := t.n, v := t.v, cyc := t.cyc, deviceLog := t.deviceLog }

def impliedFrame (op : ImpliedOp) (s t : State) : State :=
  match op with
  | .tax | .tsx | .inx | .dex => { s with x := t.x, z := t.z, n := t.n }
  | .tay | .iny | .dey => { s with y := t.y, z := t.z, n := t.n }
  | .txa | .tya => { s with a := t.a, z := t.z, n := t.n }
  | .txs => { s with sp := t.sp }
  | .clc | .sec => { s with c := t.c }
  | .cli | .sei => { s with i := t.i }
  | .cld | .sed => { s with d := t.d }
  | .clv => { s with v := t.v }
  | .nop => s
  | .pha | .php => { s with sp := t.sp, mem := t.mem, cyc := t.cyc, deviceLog := t.deviceLog }
  | .pla => { s with a := t.a, z := t.z, n := t.n, sp := t.sp, cyc := t.cyc, deviceLog := t.deviceLog }
  | .plp => { s with
      c := t.c, z := t.z, i := t.i, d := t.d, b := t.b, v := t.v, n := t.n, sp := t.sp, cyc := t.cyc,
      deviceLog := t.deviceLog }
  | .rts => { s with pc := t.pc, sp := t.sp, cyc := t.cyc, deviceLog := t.deviceLog }
  | .brk => { s with
      sp := t.sp, pc := t.pc, i := t.i, b := if s.cfg.bWriteback then t.b else s.b, mem := t.mem, cyc := t.cyc,
      deviceLog := t.deviceLog }
  | .rti => { s with
      c := t.c, z := t.z, i := t.i, d := t.d, b := t.b, v := t.v, n := t.n, pc := t.pc, sp := t.sp, cyc := t.cyc,
      deviceLog := t.deviceLog }

def formFrame (f : Form) (s t : State) : State :=
  match f with
  | .read op _ => readFrame op s t
  | .store _ _ => { s with mem := t.mem, cyc := t.cyc, deviceLog := t.deviceLog }
  | .modify op _ => { s with
      mem := t.mem, z := t.z, n := t.n, c := if op = .inc ∨ op = .dec then s.c else t.c, cyc := t.cyc,
      deviceLog := t.deviceLog }
  | .modifyAcc _ => { s with a := t.a, z := t.z, n := t.n, c := t.c }
  | .branch _ _ => { s with pc := t.pc, cyc := t.cyc }
  | .jump _ => { s with pc := t.pc, cyc := t.cyc, deviceLog := t.deviceLog }
  | .call _ => { s with sp := t.sp, pc := t.pc, mem := t.mem, cyc := t.cyc, deviceLog := t.deviceLog }
  | .implied op => impliedFrame op s t
  | .unassigned _ => { s with cyc := t.cyc }

section
variable {s t : State}

theorem branch_next {taken : Bool} {d : Byte} (h : branch taken d s = .next t) :
    t = { s with pc := t.pc, cyc := t.cyc } := by
  cases taken with
  | false => cases h; rfl
  | true =>
    rw [branch_taken] at h
    cases h
    rfl

theorem jump_next {m : AddrMode} (h : jump m s = .next t) :
    t = { s with pc := t.pc, cyc := t.cyc, deviceLog := t.deviceLog } := by
  obtain ⟨ea, u, hresolve, hnext⟩ := bindVal_eq_next.mp h
  cases hnext
  rw [resolve_readsOnly hresolve]
  rfl

theorem modifyAccumulator_next {op : ModifyOp} (h : modifyAccumulator (modifyEffect op) s = .next t) :
    t = { s with a := t.a, z := t.z, n := t.n, c := t.c } := by
  rw [modifyAccumulator, modifyEffect_state] at h
  cases h
  rfl

/-- Only one policy lets an unassigned opcode answer (R98). -/
theorem unknownOpcode_next {opcode : Byte} (h : unknownOpcode opcode s = .next t) : t = { s with cyc := t.cyc } := by
  unfold unknownOpcode at h
  split at h
  · cases h
  · cases h; rfl
  · cases h

theorem impliedMeaning_next {op : ImpliedOp} (h : impliedMeaning op s = .next t) : t = impliedFrame op s t := by
  cases op with
  | pha => rw [push_next h]; rfl
  | php => rw [push_next h]; rfl
  | pla => rw [exec_plaImp_next h]; rfl
  | plp => rw [exec_plpImp_next h]; rfl
  | rts => rw [exec_rtsImp_next h]; rfl
  | brk =>
    rw [exec_brkImp_next h, impliedFrame]
    split <;> rfl
  | rti => rw [trapReturn_next h]; rfl
  | _ => cases h; rfl

/-- An instruction that answers has changed only the fields of its form's frame. -/
theorem exec_next_frame {i : Instr} (h : exec i s = .next t) : t = formFrame i.form s t := by
  have hrun := (exec_eq_runForm i s).symm.trans h
  cases hform : i.form with
  | read op src =>
    obtain ⟨hframe, -⟩ := readInstructionsFrame i op src s t hform h
    cases op <;> exact hframe
  | store op m =>
    rw [hform] at hrun
    exact storeOperand_writesOnly hrun
  | modify op m =>
    rw [hform] at hrun
    exact modifyOperand_frame hrun
  | modifyAcc op =>
    rw [hform] at hrun
    exact modifyAccumulator_next hrun
  | branch op d =>
    rw [hform] at hrun
    exact branch_next hrun
  | jump m =>
    rw [hform] at hrun
    exact jump_next hrun
  | call w =>
    rw [hform] at hrun
    rw [exec_jsrAbs_next hrun]
    rfl
  | implied op =>
    rw [hform] at hrun
    exact impliedMeaning_next hrun
  | unassigned opcode =>
    rw [hform] at hrun
    exact unknownOpcode_next hrun

end

/-! ## The writers -/

@[simp] theorem AddrMode.tag_ne_acc (m : AddrMode) : m.tag ≠ .acc := by
  cases m <;> exact nofun

@[simp] theorem AddrMode.tag_ne_rel (m : AddrMode) : m.tag ≠ .rel := by
  cases m <;> exact nofun

@[simp] theorem Source.tag_ne_rel (src : Source) : src.tag ≠ .rel := by
  cases src with
  | imm w => exact nofun
  | mem m => exact AddrMode.tag_ne_rel m

/-- Settles O57: a register that differs is in the frame of its instruction's form. -/
theorem registersHaveTheirWriters : Obligations.RegistersHaveTheirWriters := by
  intro i s t h
  rw [exec_next_frame h, Instr.mnemonic, Instr.mode]
  cases hform : i.form with
  | read op src => cases op <;> simp [formFrame, readFrame, Form.mnemonic, ReadOp.name]
  | store op m => cases op <;> simp [formFrame, Form.mnemonic, StoreOp.name]
  | modify op m => cases op <;> simp [formFrame, Form.mnemonic, ModifyOp.name, Form.mode]
  | modifyAcc op =>
    obtain ⟨hinc, hdec⟩ := ne_inc_dec_of_form_modifyAcc hform
    cases op with
    | inc => exact absurd rfl hinc
    | dec => exact absurd rfl hdec
    | _ => simp [formFrame, Form.mnemonic, ModifyOp.name, Form.mode]
  | branch op d => cases op <;> simp [formFrame, Form.mnemonic, BranchOp.name]
  | jump m => simp [formFrame, Form.mnemonic]
  | call w => simp [formFrame, Form.mnemonic]
  | implied op => cases op <;> simp [formFrame, impliedFrame, Form.mnemonic, ImpliedOp.name]
  | unassigned opcode => simp [formFrame]

theorem pollInterrupts_flags {s t : State} (h : pollInterrupts s = .next t) :
    t.c = s.c ∧ t.z = s.z ∧ t.d = s.d ∧ t.v = s.v ∧ t.n = s.n ∧ (s.cfg.bWriteback = false → t.b = s.b) := by
  have hentry {u : State} {vector : Word} (h : trapEntry vector false u = .next t) :
      t.c = u.c ∧ t.z = u.z ∧ t.d = u.d ∧ t.v = u.v ∧ t.n = u.n ∧ (u.cfg.bWriteback = false → t.b = u.b) := by
    rw [trapEntry_next h]
    refine ⟨rfl, rfl, rfl, rfl, rfl, fun hb => ?_⟩
    simp [hb]
  unfold pollInterrupts at h
  split at h
  · exact hentry (u := s.clearNmi.tick 2) (vector := nmiVector) h
  · split at h
    · exact hentry (u := s.tick 2) (vector := irqVector) h
    · cases h
      exact ⟨rfl, rfl, rfl, rfl, rfl, fun _ => rfl⟩

/-- Settles O58: a flag that differs is in the frame of its instruction's form; a trap entry writes I and B. -/
theorem flagsHaveTheirWriters : Obligations.FlagsHaveTheirWriters := by
  refine ⟨fun i s t h => ?_, fun s t h => pollInterrupts_flags h⟩
  rw [exec_next_frame h, Instr.mnemonic, Instr.mode]
  cases hform : i.form with
  | read op src => cases op <;> simp [formFrame, readFrame, Form.mnemonic, ReadOp.name, Form.mode]
  | store op m => cases op <;> simp [formFrame, Form.mnemonic, StoreOp.name]
  | modify op m => cases op <;> simp [formFrame, Form.mnemonic, ModifyOp.name, Form.mode]
  | modifyAcc op =>
    obtain ⟨hinc, hdec⟩ := ne_inc_dec_of_form_modifyAcc hform
    cases op with
    | inc => exact absurd rfl hinc
    | dec => exact absurd rfl hdec
    | _ => simp [formFrame, Form.mnemonic, ModifyOp.name, Form.mode]
  | branch op d => cases op <;> simp [formFrame, Form.mnemonic, BranchOp.name]
  | jump m => simp [formFrame, Form.mnemonic]
  | call w => simp [formFrame, Form.mnemonic]
  | implied op =>
    cases op with
    | brk => simp +contextual [formFrame, impliedFrame, Form.mnemonic, ImpliedOp.name]
    | _ => simp [formFrame, impliedFrame, Form.mnemonic, ImpliedOp.name, Form.mode]
  | unassigned opcode => simp [formFrame]

end Sys2Proof.Machine
end
